-- ==== Sys2Proof/Word.lean ====
section
/-! DEFINITION. The word types of the core (spec/00_scope.md R17, spec/10_state.md R40). -/

namespace Sys2Proof

/-- A 32-bit port or register word (R17: samples, load values and the encoder input are 32 bits). -/
abbrev U32 := BitVec 32

/-- The 64-bit two's-complement word of `acc_ticks` (R47). -/
abbrev S64 := BitVec 64

/-- One 8-bit segment pattern (R17, R50). -/
abbrev Pattern := BitVec 8

end Sys2Proof
end

