-- ==== Sys2Proof/Config.lean ====
section
/-! DEFINITION. The configuration of the core (spec/00_scope.md R8 to R16): what is fixed before reset and never
changes while the core runs, the legality of a configuration, and the two OPEN parameters, which have no body. -/

namespace Sys2Proof

/-- `WRAP_DETECT` (R13): how a sample detects a timer wrap. -/
inductive WrapDetect where
  | irq
  | compare
  | combined
deriving DecidableEq, Repr

/-- `DISP_FMT` (R14): which DisplayValue TICK produces. -/
inductive DispFmt where
  | mmsshh
  | raw
deriving DecidableEq, Repr

/-- `SEG` (R16): the glyph table. `SEG.BLANK` is no field: it is fixed (`blankPattern`). -/
structure SegTable where
  /-- `SEG.DIG[0..9]`. -/
  dig : Vector Pattern 10
  /-- `SEG.MINUS`. -/
  minus : Pattern
  /-- `SEG.ERR[0..5]`, indexed by slot. -/
  err : Vector Pattern 6
deriving DecidableEq, Repr

/-- `SEG.BLANK`, fixed at 0x00 (R16, R260). -/
def blankPattern : Pattern := 0x00#8

/-- Bit 7 (dp, unused) is 0 in every pattern of the table: R260 says bit 7 is 0 in every pattern the core writes.
DEDUCED, log entry 4. -/
abbrev SegTable.DpClear (t : SegTable) : Prop :=
  (∀ p ∈ t.dig.toList, p.getLsbD 7 = false) ∧ t.minus.getLsbD 7 = false ∧
    ∀ p ∈ t.err.toList, p.getLsbD 7 = false

/-- The configuration record (R8 to R10, R13 to R16), as plain data. -/
structure Config where
  /-- `LOAD` (R8): the reload value of the countdown timer. -/
  load : U32
  /-- `PRESCALER` (R9). -/
  prescaler : BitVec 8
  /-- `CLOCK_HZ` (R10): the clock rate of the countdown timer in hertz. -/
  clockHz : Nat
  /-- `WRAP_DETECT` (R13). -/
  wrapDetect : WrapDetect
  /-- `DISP_FMT` (R14). -/
  dispFmt : DispFmt
  /-- `ONES_FORCE` (R15). -/
  onesForce : Bool
  /-- `SEG` (R16). -/
  seg : SegTable
deriving DecidableEq, Repr

/-- `AUTO_RELOAD` (R12): the constant 1. -/
def Config.autoReload : Bool := true

/-- The legal configurations: `LOAD >= 1` (R8), `T >= 1` in the form `CLOCK_HZ >= 100 * (PRESCALER + 1)` that R11
gives (it implies R10's positive `CLOCK_HZ`), and a glyph table with bit 7 clear (R260, log entry 4). -/
abbrev Config.Legal (c : Config) : Prop :=
  1 ≤ c.load.toNat ∧ 100 * (c.prescaler.toNat + 1) ≤ c.clockHz ∧ c.seg.DpClear

/-- A configuration with the proof that it is legal. State holds one of these, so no step ever meets an illegal
configuration (R11: a model refuses an illegal configuration; `State.boot` is where it is refused by name). -/
structure LegalConfig extends Config where
  legal : toConfig.Legal
deriving DecidableEq, Repr

/-- The OPEN parameter `LOAD` (R8, spec/92_eei_decisions.md D15) of the machine behind `State.reset`: the source
gives no value, so nothing is known of it but `LOAD = openLoad + 1`, that is 1 <= LOAD <= 2^32 - 1. Log entry 2. -/
opaque Config.openLoad : Fin 4294967295

/-- The OPEN parameter `PRESCALER` (R9, D15) of the machine behind `State.reset`: any u8. Log entry 2. -/
opaque Config.openPrescaler : BitVec 8

end Sys2Proof
end

