-- ==== Sys2Proof/Syntax.lean ====
section
/-! DEFINITION. The operations of the core (spec/opcode_table.json, spec/30_encoding.md R101, R102), the input ports
that carry them (spec/10_state.md R59), and the assembly lines of R107 and R108 as abstract syntax. -/

namespace Sys2Proof

/-- The operations, one constructor per row of spec/opcode_table.json, with the operands R102 lists.
The reserved codes 101, 110 and 111 are no operations of the table: see `Decoded.reserved`. -/
inductive Instr where
  /-- NOP (000): the idle code (R105, R200). -/
  | nop
  /-- SAMPLE (001): `cv` unsigned, `irq` boolean (R142, R147). -/
  | sample (cv : U32) (irq : Bool)
  /-- FMT (010): `value` read as unsigned (R151). -/
  | fmt (value : U32)
  /-- TICK (011): the four button events, the display-mode switch and the sample (R201, R217). -/
  | tick (btn_start btn_stop btn_lap btn_clear mode : Bool) (cv : U32) (irq : Bool)
  /-- ENC (100): `value` read as two's complement (R263, R271). -/
  | enc (value : U32)
deriving DecidableEq, Repr

/-- The levels of the input ports at one clock edge (R59). -/
structure Ports where
  rst : Bool
  op : BitVec 3
  value : U32
  cv : U32
  irq : Bool
  btn_start : Bool
  btn_stop : Bool
  btn_lap : Bool
  btn_clear : Bool
  mode : Bool
deriving DecidableEq, Repr

/-- Every input at 0: no reset, the idle code NOP. -/
def Ports.idle : Ports :=
  { rst := false, op := 0, value := 0, cv := 0, irq := false, btn_start := false, btn_stop := false,
    btn_lap := false, btn_clear := false, mode := false }

/-- A button name of the TICK line (R107). -/
inductive Button where
  | start
  | stop
  | lap
  | clear
deriving DecidableEq, Repr

/-- The operand of an ENC line (R107): a decimal integer, or a 32-bit hex pattern. -/
inductive EncOperand where
  | dec (n : Int)
  | hex (pattern : Nat)
deriving DecidableEq, Repr

/-- One line of the assembly syntax: the five operations (R107) and the five pseudo-operations (R108).
An operand of TICK that is left out is `none`; the pseudo-operations are TICK lines, so theirs may be left out too
(the spec's own examples write `START` and `STOP cv=600`; log entry 10). -/
inductive Line where
  | nop
  | sample (cv irq : Nat)
  | fmt (value : Nat)
  | tick (buttons : List Button) (mode cv irq : Option Nat)
  | enc (value : EncOperand)
  | start (cv : Option Nat)
  | stop (cv irq : Option Nat)
  | lap (cv irq : Option Nat)
  | clear
  | poll (cv irq mode : Option Nat)
deriving DecidableEq, Repr

end Sys2Proof
end

