-- ==== Sys2Proof/WellFormed.lean ====
section
/-! DEFINITION. Which terms stand for something: the ranges R107 gives the numbers of an assembly line, and the
operations themselves. (The legality of a configuration is `Config.Legal`.) -/

namespace Sys2Proof

/-- An operation with its operands at their port widths: R102 takes each operand as a whole port, and every value of
every port is one the operation accepts (R106, R320), so no operation is ill-formed. -/
def Instr.wellFormed : Instr → Bool
  | .nop => true
  | .sample _ _ => true
  | .fmt _ => true
  | .tick _ _ _ _ _ _ _ => true
  | .enc _ => true

/-- A u32 operand of a line (R107: FMT takes [0, 2^32 - 1]; `cv` is a u32). -/
def u32Operand (n : Nat) : Bool := decide (n < 2 ^ 32)

/-- A `<0|1>` operand of a line (R107). -/
def bitOperand (n : Nat) : Bool := decide (n ≤ 1)

/-- An ENC operand (R107): a decimal in [-2^31, 2^31 - 1], or a 32-bit hex pattern. -/
def EncOperand.wellFormed : EncOperand → Bool
  | .dec n => decide (-2 ^ 31 ≤ n ∧ n ≤ 2 ^ 31 - 1)
  | .hex p => decide (p < 2 ^ 32)

/-- The assembly lines whose numbers are in the ranges of R107. -/
def Line.wellFormed : Line → Bool
  | .nop => true
  | .sample cv irq => u32Operand cv && bitOperand irq
  | .fmt value => u32Operand value
  | .tick _ mode cv irq => bitOperand (mode.getD 0) && u32Operand (cv.getD 0) && bitOperand (irq.getD 0)
  | .enc value => value.wellFormed
  | .start cv => u32Operand (cv.getD 0)
  | .stop cv irq => u32Operand (cv.getD 0) && bitOperand (irq.getD 0)
  | .lap cv irq => u32Operand (cv.getD 0) && bitOperand (irq.getD 0)
  | .clear => true
  | .poll cv irq mode => u32Operand (cv.getD 0) && bitOperand (irq.getD 0) && bitOperand (mode.getD 0)

end Sys2Proof
end

