-- ==== Sys2Proof/Decode.lean ====
section
/-! DEFINITION. The decoder and the encoder of the one format OP3 (spec/30_encoding.md R100 to R106), and the reading
of a word numbered as spec/opcode_table.json numbers its bits. -/

namespace Sys2Proof

/-- What a code on the `op` port is (R106): one of the five operations, or a reserved code, named by its bits. -/
inductive Decoded where
  | operation (i : Instr)
  | reserved (code : BitVec 3)
deriving DecidableEq, Repr

/-- The decoder: all three bits of `op` are matched (R101), and the operands are read from the ports R102 names. -/
def decode (p : Ports) : Decoded :=
  match p.op.toNat with
  | 0 => .operation .nop
  | 1 => .operation (.sample p.cv p.irq)
  | 2 => .operation (.fmt p.value)
  | 3 => .operation (.tick p.btn_start p.btn_stop p.btn_lap p.btn_clear p.mode p.cv p.irq)
  | 4 => .operation (.enc p.value)
  | _ => .reserved p.op

/-- The operation code of an operation (R101). -/
def Instr.opcode : Instr → BitVec 3
  | .nop => 0b000#3
  | .sample _ _ => 0b001#3
  | .fmt _ => 0b010#3
  | .tick _ _ _ _ _ _ _ => 0b011#3
  | .enc _ => 0b100#3

/-- The encoder: the `op` code of an operation together with the port values it names (R107); every port it does
not name is at its idle level (R59: such an input may hold any value; log entry 14). -/
def encode (i : Instr) : Ports :=
  match i with
  | .nop => { Ports.idle with op := i.opcode }
  | .sample cv irq => { Ports.idle with op := i.opcode, cv := cv, irq := irq }
  | .fmt value => { Ports.idle with op := i.opcode, value := value }
  | .tick start stop lap clear mode cv irq =>
    { Ports.idle with
      op := i.opcode, btn_start := start, btn_stop := stop, btn_lap := lap, btn_clear := clear, mode := mode,
      cv := cv, irq := irq }
  | .enc value => { Ports.idle with op := i.opcode, value := value }

/-- The ports a word of spec/opcode_table.json drives. The operation word is the 3-bit code in bits 2:0, and the
operands are separate ports, not fields of the word (R100): `op` takes bits 2:0 of `w` and every operand port
is 0 (log entry 3). -/
def tablePorts (nbits w : Nat) : Ports :=
  { Ports.idle with op := BitVec.ofNat 3 (w % 2 ^ nbits) }

/-- The operation the decoder reads from an instruction whose bits are `w`, numbered as spec/opcode_table.json numbers
them, with every bit above `nbits` 0; `none` for a reserved code. -/
def decodeTableWord (nbits w : Nat) : Option Instr :=
  match decode (tablePorts nbits w) with
  | .operation i => some i
  | .reserved _ => none

end Sys2Proof
end

