-- ==== Sys2Proof/Machine/Flags.lean ====
section
/-! DEFINITION. The status register `flags` (spec/10_state.md R51): its five bits, and the writes the operations make to
them (R52 to R56). -/

namespace Sys2Proof.Machine

/-- The five bits of `flags` in their places (R51). -/
def Flags.pack (neg rng serr wrap operr : Bool) : BitVec 5 :=
  BitVec.ofBool operr ++ BitVec.ofBool wrap ++ BitVec.ofBool serr ++ BitVec.ofBool rng ++ BitVec.ofBool neg

/-- NEG, `flags[0]` (R52). -/
def Flags.neg (f : BitVec 5) : Bool := f.getLsbD 0

/-- RNG, `flags[1]` (R53). -/
def Flags.rng (f : BitVec 5) : Bool := f.getLsbD 1

/-- SERR, `flags[2]` (R54). -/
def Flags.serr (f : BitVec 5) : Bool := f.getLsbD 2

/-- WRAP, `flags[3]` (R55). -/
def Flags.wrap (f : BitVec 5) : Bool := f.getLsbD 3

/-- OPERR, `flags[4]` (R55). -/
def Flags.operr (f : BitVec 5) : Bool := f.getLsbD 4

/-- The flag write of the encoder body (R271): NEG, RNG and SERR; the other bits hold (R51). -/
def Flags.setEnc (neg rng serr : Bool) (f : BitVec 5) : BitVec 5 :=
  Flags.pack neg rng serr (Flags.wrap f) (Flags.operr f)

/-- The flag write of the sample (R146): WRAP; the other bits hold. -/
def Flags.setWrap (b : Bool) (f : BitVec 5) : BitVec 5 :=
  Flags.pack (Flags.neg f) (Flags.rng f) (Flags.serr f) b (Flags.operr f)

/-- The OPERR write of every operation except NOP (R55, R104); the other bits hold. -/
def Flags.setOperr (b : Bool) (f : BitVec 5) : BitVec 5 :=
  Flags.pack (Flags.neg f) (Flags.rng f) (Flags.serr f) (Flags.wrap f) b

end Sys2Proof.Machine
end

