-- ==== Sys2Proof/Machine/Defaults.lean ====
section
/-! DEFINITION. The default values of the configuration (spec/00_scope.md R10, R13 to R15; spec/42_encoder.md R261,
R262), and the configuration `State.reset` stands on, where the OPEN parameters stay open. -/

namespace Sys2Proof.Machine

/-- The default digit glyphs 0 to 9 (R261). PRESUMED by the spec itself (K3): log entry 5. -/
def defaultDigits : Vector Pattern 10 :=
  #v[0x3F#8, 0x06#8, 0x5B#8, 0x4F#8, 0x66#8, 0x6D#8, 0x7D#8, 0x07#8, 0x7F#8, 0x6F#8]

/-- The default error glyph, slot 0 first: space, r, o, r, r, e (R262). Log entry 5. -/
def defaultError : Vector Pattern 6 :=
  #v[0x00#8, 0x50#8, 0x5C#8, 0x50#8, 0x50#8, 0x79#8]

/-- The default glyph table (R261, R262). -/
def defaultSeg : SegTable :=
  { dig := defaultDigits, minus := 0x40#8, err := defaultError }

/-- A configuration with the spec's defaults for everything but the two OPEN parameters: `CLOCK_HZ` 200 MHz (R10),
`WRAP_DETECT` IRQ (R13), `DISP_FMT` MMSSHH (R14), `ONES_FORCE` true (R15), the default `SEG` (R261). -/
def defaultConfig (load : U32) (prescaler : BitVec 8) : Config :=
  { load := load, prescaler := prescaler, clockHz := 200000000, wrapDetect := .irq, dispFmt := .mmsshh,
    onesForce := true, seg := defaultSeg }

/-- The OPEN parameter `LOAD`, any value of [1, 2^32 - 1] (R8). -/
def openLoadValue : U32 := BitVec.ofNat 32 (Config.openLoad.val + 1)

theorem openLoadValue_pos : 1 ≤ openLoadValue.toNat := by
  have h := Config.openLoad.isLt
  simp only [openLoadValue, BitVec.toNat_ofNat]
  omega

theorem defaultSeg_dpClear : defaultSeg.DpClear := by decide

/-- At the default clock every prescaler is legal (R11). -/
theorem defaultConfig_legal (load : U32) (prescaler : BitVec 8) (h : 1 ≤ load.toNat) :
    (defaultConfig load prescaler).Legal := by
  refine ⟨h, ?_, defaultSeg_dpClear⟩
  have hp := prescaler.isLt
  simp only [defaultConfig]
  omega

/-- The configuration behind `State.reset`: the spec's defaults, with `LOAD` and `PRESCALER` left open (D15;
log entry 2). -/
def openConfig : LegalConfig :=
  { defaultConfig openLoadValue Config.openPrescaler with
    legal := defaultConfig_legal openLoadValue Config.openPrescaler openLoadValue_pos }

end Sys2Proof.Machine
end

