-- ==== Sys2Proof/Machine/State.lean ====
section
/-! DEFINITION. The state of the core (spec/10_state.md R40, R58, R59) as plain data, the reasons a step can stop, and
the state right after reset (spec/70_reset_and_hazards.md R361). -/

namespace Sys2Proof.Machine

/-- `TimerRunState` (R44): Stopped = 0, Running = 1. -/
inductive RunState where
  | stopped
  | running
deriving DecidableEq, Repr

/-- A timer command (R58). -/
inductive TimerCmd where
  /-- `LOAD(v)`: the device call `load(value: u32)`. -/
  | load (v : U32)
  /-- `CTRL(en, ar, ps)`: the device call `set_control(enable, auto_reload, prescaler)`. -/
  | ctrl (en ar : Bool) (ps : BitVec 8)
  /-- `CLRIRQ`: the device call `clear_interrupt()`. -/
  | clrirq
deriving DecidableEq, Repr

/-- The faults of the core: none. The core raises no exception and every operation completes normally (R320, R325),
so no constructor exists and nothing can raise one. Safe: no behaviour of the core is cut off by it. -/
inductive Fault where
deriving DecidableEq, Repr

/-- The refusals of the model. -/
inductive Refusal where
  /-- Raised by an arm of `exec` whose operation has no meaning yet. No arm answers it: every operation of
  spec/opcode_table.json has its meaning. Safe. -/
  | notModelled (mnemonic : String)
  /-- Raised by `State.boot` on a configuration that is not legal, before any step (R11;
  spec/93_implementation_defined.md I7). No step raises it. Safe: nothing is proved of such a machine. -/
  | illegalConfiguration
deriving DecidableEq, Repr

/-- The state of the core. The registers carry the names of R40. Three fields are no registers: `cfg`, the
configuration, fixed from reset on (R364; log entry 1); `tcmd`, the timer-command output of the last operation,
which R380 holds valid until the next issue (log entry 6); and `issues`, the host's operation sequence that is
still to come, which R43 calls the core's program (log entry 1). -/
@[ext]
structure State where
  /-- The configuration (R8 to R16). -/
  cfg : LegalConfig
  /-- `run` (R44). -/
  run : RunState
  /-- `ovf_count` (R45). -/
  ovf_count : U32
  /-- `last` (R46). -/
  last : U32
  /-- `acc_ticks` (R47). -/
  acc_ticks : S64
  /-- `elapsed` (R48). -/
  elapsed : U32
  /-- `lap` (R49). -/
  lap : U32
  /-- `seg[0..5]` (R50): slot 0 is the rightmost display. -/
  seg : Vector Pattern 6
  /-- `flags` (R51): NEG, RNG, SERR, WRAP, OPERR in bits 0 to 4. -/
  flags : BitVec 5
  /-- `fmt_mm` (R57). -/
  fmt_mm : BitVec 7
  /-- `fmt_ss` (R57). -/
  fmt_ss : BitVec 6
  /-- `fmt_hh` (R57). -/
  fmt_hh : BitVec 7
  /-- `fmt_mmsshh` (R57). -/
  fmt_mmsshh : BitVec 20
  /-- `disp` (R57), two's complement. -/
  disp : U32
  /-- `tcmd` (R58): the timer commands of the last operation, in the order they were emitted. -/
  tcmd : List TimerCmd
  /-- The levels of the input ports at the clock edges to come, the next one first (R43, R59). -/
  issues : List Ports
deriving DecidableEq, Repr

/-- The core right after `rst` under a configuration, with nothing issued yet (R361, R362). -/
def State.resetWith (c : LegalConfig) : State :=
  { cfg := c
    run := .stopped
    ovf_count := 0
    last := c.load
    acc_ticks := 0
    elapsed := 0
    lap := 0
    seg := Vector.replicate 6 blankPattern
    flags := 0
    fmt_mm := 0
    fmt_ss := 0
    fmt_hh := 0
    fmt_mmsshh := 0
    disp := 0
    tcmd := []
    issues := [] }

/-- The machine right after reset: the spec's defaults, `LOAD` and `PRESCALER` open (log entry 2). -/
def State.reset : State := State.resetWith openConfig

end Sys2Proof.Machine
end

