-- ==== Sys2Proof/Machine/Operands.lean ====
section
/-! DEFINITION. How operands are read and results narrowed (spec/00_scope.md R19, spec/30_encoding.md R102, R103),
and the decimal digits of a natural (R22). -/

namespace Sys2Proof.Machine

/-- `int32(u)` (R19): the two's-complement reading of 32 bits, as ENC reads `value` (R103). -/
def int32 (u : U32) : Int := u.toInt

/-- The unsigned reading of a 32-bit port, as FMT reads `value` (R103). -/
def zext (u : U32) : Nat := u.toNat

/-- `u32(n)` (R19): `n mod 2^32`. -/
def u32 (n : Nat) : U32 := BitVec.ofNat 32 n

/-- `s64(n)` (R19): `n` reduced modulo 2^64 into two's complement. -/
def s64 (n : Int) : S64 := BitVec.ofInt 64 n

/-- The 32-bit two's-complement pattern of a DisplayValue (R40: `disp`). -/
def dispWord (d : Int) : U32 := BitVec.ofInt 32 d

/-- Divides by 10 until the quotient is 0, counting the steps, with `fuel` steps at most. -/
def countDigits : Nat → Nat → Nat
  | 0, _ => 0
  | fuel + 1, m => if m = 0 then 0 else countDigits fuel (m / 10) + 1

/-- `ndigits(m)` (R22): the number of decimal digits of `m`, with `ndigits(0) = 0`. -/
def ndigits (m : Nat) : Nat := countDigits m m

/-- `digit(m, i) = (m div 10^i) mod 10` (R22). -/
def digit (m i : Nat) : Fin 10 := ⟨m / 10 ^ i % 10, Nat.mod_lt _ (by decide)⟩

/-- The 1-bit code of `run` on its port (R44). -/
def RunState.bit : RunState → BitVec 1
  | .stopped => 0
  | .running => 1

end Sys2Proof.Machine
end

