-- ==== Sys2Proof/Machine/Ops.lean ====
section
/-! DEFINITION. The shared operations over the state: the command list (spec/00_scope.md R21), the OPERR write, the
reserved codes, the reset input, the boot configuration, the next issue, and the output ports (spec/10_state.md R41,
spec/20_memory.md R81). The core takes no exception and returns from none (spec/60_exceptions.md R320, R325), so the
operation "taking an exception" does not exist here; and it has no memory (R80), so no memory operation does. -/

namespace Sys2Proof.Machine

/-- The command list of an operation starts empty (R58, R217: `tcmd := []`). -/
def beginOp (s : State) : State := { s with tcmd := [] }

/-- `emit C` (R21): append a command to the operation's list. -/
def emit (c : TimerCmd) (s : State) : State := { s with tcmd := s.tcmd ++ [c] }

/-- `flags[4] <- b` (R51, R55). -/
def writeOperr (b : Bool) (s : State) : State := { s with flags := Flags.setOperr b s.flags }

/-- `flags[3] <- b` (R51, R55). -/
def writeWrap (b : Bool) (s : State) : State := { s with flags := Flags.setWrap b s.flags }

/-- A reserved code on `op` (R104): OPERR becomes 1, nothing else is written, and `tcmd` is empty.
R104 lets a model refuse it instead; this one does not (log entry 7). -/
def execReserved (s : State) : State := writeOperr true (beginOp s)

/-- `rst = 1` at a clock edge (R360, R361, R362): every register takes its reset value and `tcmd` is empty. The
configuration is a constant (R364), and the host's sequence goes on. -/
def applyReset (s : State) : State := { State.resetWith s.cfg with issues := s.issues }

/-- Fixing a configuration and applying reset (R363, steps 1 and 2). An illegal configuration is refused before any
step (R11; spec/93_implementation_defined.md I7). -/
def State.boot (c : Config) : Host.Outcome State Fault Refusal :=
  if h : c.Legal then .next (State.resetWith { c with legal := h }) else .refused .illegalConfiguration

/-- The levels of the input ports at the next clock edge, and the state whose sequence starts after it; `none` when
the host issues nothing. -/
def nextIssue (s : State) : Option (Ports × State) :=
  match s.issues with
  | [] => none
  | p :: rest => some (p, { s with issues := rest })

/-- The host drives these levels at the next clock edge, ahead of what it had to issue. -/
def pushIssue (p : Ports) (s : State) : State := { s with issues := p :: s.issues }

/-- `hex_lo` (R81): `{seg[3], seg[2], seg[1], seg[0]}`. -/
def hexLo (s : State) : U32 := s.seg[3] ++ s.seg[2] ++ s.seg[1] ++ s.seg[0]

/-- `hex_hi` (R81): `{16'h0000, seg[5], seg[4]}`. -/
def hexHi (s : State) : U32 := 0#16 ++ s.seg[5] ++ s.seg[4]

/-- What the output ports show (R41, R58, R81): every register under its own name, the two packed display words and
the command list. -/
structure Outputs where
  run : BitVec 1
  ovf_count : U32
  last : U32
  acc_ticks : S64
  elapsed : U32
  lap : U32
  seg : Vector Pattern 6
  flags : BitVec 5
  fmt_mm : BitVec 7
  fmt_ss : BitVec 6
  fmt_hh : BitVec 7
  fmt_mmsshh : BitVec 20
  disp : U32
  hex_lo : U32
  hex_hi : U32
  tcmd : List TimerCmd
deriving DecidableEq, Repr

/-- Reading the output ports: a view of the state, with no side effect (R41, R84). -/
def outputs (s : State) : Outputs :=
  { run := s.run.bit, ovf_count := s.ovf_count, last := s.last, acc_ticks := s.acc_ticks, elapsed := s.elapsed,
    lap := s.lap, seg := s.seg, flags := s.flags, fmt_mm := s.fmt_mm, fmt_ss := s.fmt_ss, fmt_hh := s.fmt_hh,
    fmt_mmsshh := s.fmt_mmsshh, disp := s.disp, hex_lo := hexLo s, hex_hi := hexHi s, tcmd := s.tcmd }

end Sys2Proof.Machine
end

