-- ==== Sys2Proof/Machine/Accumulator.lean ====
section
/-! DEFINITION. The elapsed-time accumulator and the MM:SS:HH formatter: SAMPLE and FMT
(spec/40_accumulator.md R140 to R155). -/

namespace Sys2Proof.Machine

/-- `T` (R11, R141): the timer ticks per hundredth. -/
def ticksPerHundredth (c : Config) : Nat := c.clockHz / (100 * (c.prescaler.toNat + 1))

/-- `Q` (R141): the hundredths credited per counted wrap, computed once as `LOAD div T`. -/
def hundredthsPerWrap (c : Config) : Nat := c.load.toNat / ticksPerHundredth c

/-- What wrap detection decides (R143): whether this sample counts a wrap, and whether it clears the interrupt. -/
structure WrapDecision where
  wrap : Bool
  clear : Bool
deriving DecidableEq, Repr

/-- Wrap detection (R143). The comparison is strict and unsigned. -/
def detectWrap (mode : WrapDetect) (last cv : U32) (irq : Bool) : WrapDecision :=
  match mode with
  | .irq => { wrap := irq, clear := irq }
  | .compare => { wrap := decide (last.toNat < cv.toNat), clear := false }
  | .combined =>
    if irq then { wrap := true, clear := true }
    else { wrap := decide (last.toNat < cv.toNat), clear := false }

/-- `ovf_count` after wrap detection (R143). -/
def countWrap (wrap : Bool) (n : U32) : U32 := if wrap then u32 (n.toNat + 1) else n

/-- The baseline of the accumulation (R143): 0 after a counted wrap, else `last`. -/
def baseline (wrap : Bool) (last : U32) : Nat := if wrap then 0 else last.toNat

/-- The elapsed computation (R145). The subtraction is that of naturals, which is `max(0, LOAD - cv)`; it gives an
out-of-contract `cv > LOAD` the result R145 defines (log entry 9). -/
def elapsedHundredths (c : Config) (cv n : U32) : U32 :=
  u32 ((c.load.toNat - cv.toNat) / ticksPerHundredth c + n.toNat * hundredthsPerWrap c)

/-- The accumulator writes of a sample whose wrap detection decided `wrap` (R143, R144, R145, and WRAP of R146). -/
def accumulate (wrap : Bool) (cv : U32) (s : State) : State :=
  { s with
    ovf_count := countWrap wrap s.ovf_count
    acc_ticks := s64 (s.acc_ticks.toInt + ((cv.toNat : Int) - (baseline wrap s.last : Int)))
    last := cv
    elapsed := elapsedHundredths s.cfg.toConfig cv (countWrap wrap s.ovf_count)
    flags := Flags.setWrap wrap s.flags }

/-- The body of SAMPLE (R147) without its OPERR write, as TICK's sample phase runs it too (R204). -/
def sampleBody (cv : U32) (irq : Bool) (s : State) : State :=
  let d := detectWrap s.cfg.wrapDetect s.last cv irq
  accumulate d.wrap cv (if d.clear then emit .clrirq s else s)

/-- SAMPLE (R147). It does not read `run` (R142). -/
def execSample (cv : U32) (irq : Bool) (s : State) : Host.Outcome State Fault Refusal :=
  .next (writeOperr false (sampleBody cv irq (beginOp s)))

/-- The four results of the formatter (R150). -/
structure Formatted where
  mm : Nat
  ss : Nat
  hh : Nat
  mmsshh : Nat
deriving DecidableEq, Repr

/-- `format(e)` (R150). -/
def format (e : Nat) : Formatted :=
  let mm := e / 6000 % 100
  let ss := e / 100 % 60
  let hh := e % 100
  { mm := mm, ss := ss, hh := hh, mmsshh := mm * 10000 + ss * 100 + hh }

/-- The write of the four `fmt_*` registers (R151, R214). -/
def writeFormat (x : Formatted) (s : State) : State :=
  { s with
    fmt_mm := BitVec.ofNat 7 x.mm
    fmt_ss := BitVec.ofNat 6 x.ss
    fmt_hh := BitVec.ofNat 7 x.hh
    fmt_mmsshh := BitVec.ofNat 20 x.mmsshh }

/-- FMT (R151). -/
def execFmt (value : U32) (s : State) : Host.Outcome State Fault Refusal :=
  .next (writeOperr false (writeFormat (format (zext value)) (beginOp s)))

end Sys2Proof.Machine
end

