-- ==== Sys2Proof/Machine/Encoder.lean ====
section
/-! DEFINITION. The decimal-to-seven-segment encoder: ENC (spec/42_encoder.md R260 to R274). -/

namespace Sys2Proof.Machine

/-- What the encoder computes (R271): the six patterns and the three flags. -/
structure Rendering where
  seg : Vector Pattern 6
  neg : Bool
  rng : Bool
  serr : Bool
deriving DecidableEq, Repr

/-- The pattern of slot `i` before step 6 (R266, R268), for a magnitude `m` and its sign. -/
def numeralSlot (t : SegTable) (neg : Bool) (m i : Nat) : Pattern :=
  if i < ndigits m then t.dig[digit m i]
  else if neg ∧ i = ndigits m then t.minus
  else blankPattern

/-- Whether step 6 forces slot 0 to "0" (R269): for `v = 0`, and under `ONES_FORCE` for every signed `v > 15`. -/
def forcesOnes (onesForce : Bool) (v : Int) : Bool := decide (v = 0) || (onesForce && decide (15 < v))

/-- The six slots of the numeric rendering: steps 3, 5 and 6 (R266, R268, R269). -/
def numeral (c : Config) (v : Int) : Vector Pattern 6 :=
  let s := Vector.ofFn fun i : Fin 6 => numeralSlot c.seg (decide (v < 0)) v.natAbs i.val
  if forcesOnes c.onesForce v then s.set 0 c.seg.dig[0] else s

/-- The encoding of `v` (R264 to R269, R271): out of range, sign overflow, or the numeral. -/
def render (c : Config) (v : Int) : Rendering :=
  let neg := decide (v < 0)
  if 999999 < v.natAbs then
    { seg := Vector.replicate 6 blankPattern, neg := neg, rng := true, serr := false }
  else if neg ∧ ndigits v.natAbs = 6 then
    { seg := c.seg.err, neg := neg, rng := false, serr := true }
  else
    { seg := numeral c v, neg := neg, rng := false, serr := false }

/-- The write of `seg[0..5]` and NEG, RNG, SERR (R271). -/
def writeRendering (r : Rendering) (s : State) : State :=
  { s with seg := r.seg, flags := Flags.setEnc r.neg r.rng r.serr s.flags }

/-- `ENC_BODY(v)` (R271), as TICK's output phase runs it too (R216). -/
def encBody (v : Int) (s : State) : State := writeRendering (render s.cfg.toConfig v) s

/-- ENC (R271). -/
def execEnc (value : U32) (s : State) : Host.Outcome State Fault Refusal :=
  .next (writeOperr false (encBody (int32 value) (beginOp s)))

end Sys2Proof.Machine
end

