-- ==== Sys2Proof/Machine/Controller.lean ====
section
/-! DEFINITION. The stopwatch controller: NOP and TICK (spec/41_controller.md R200 to R222). -/

namespace Sys2Proof.Machine

/-- NOP (R200): no register is written, OPERR included, and `tcmd` is empty. -/
def execNop (s : State) : Host.Outcome State Fault Refusal := .next (beginOp s)

/-- The event of a tick (R203). -/
inductive Event where
  | none
  | start
  | stop
  | lap
  | clear
deriving DecidableEq, Repr

/-- Event selection (R203): Clear, then Stop, then Lap, then Start. -/
def selectEvent (btn_start btn_stop btn_lap btn_clear : Bool) : Event :=
  if btn_clear then .clear
  else if btn_stop then .stop
  else if btn_lap then .lap
  else if btn_start then .start
  else .none

/-- The sample phase (R204): the body of SAMPLE while Running; while Stopped nothing but WRAP <- 0. -/
def samplePhase (cv : U32) (irq : Bool) (s : State) : State :=
  match s.run with
  | .running => sampleBody cv irq s
  | .stopped => writeWrap false s

/-- `CTRL(en, 1, PRESCALER)` (R12, R208, R209). -/
def ctrlCmd (en : Bool) (s : State) : TimerCmd := .ctrl en Config.autoReload s.cfg.prescaler

/-- Event Start while Stopped (R208). -/
def doStart (s : State) : State :=
  let s := emit (.load s.cfg.load) s
  let s := emit (ctrlCmd true s) s
  { s with last := s.cfg.load, run := .running }

/-- Event Stop while Running (R209). -/
def doStop (s : State) : State :=
  let s := emit (ctrlCmd false s) s
  { s with run := .stopped }

/-- Event Lap while Running (R210). -/
def doLap (s : State) : State := { s with lap := s.elapsed }

/-- Event Clear, in either state (R211). -/
def doClear (s : State) : State :=
  let s := match s.run with
    | .running => emit (ctrlCmd false s) s
    | .stopped => s
  let s := { s with ovf_count := 0, lap := 0, elapsed := 0, acc_ticks := 0, last := s.cfg.load }
  let s := emit (.load 0) s
  { s with run := .stopped }

/-- The event phase (R206 to R212, R217). -/
def eventPhase (e : Event) (s : State) : State :=
  match e, s.run with
  | .start, .stopped => doStart s
  | .stop, .running => doStop s
  | .lap, .running => doLap s
  | .clear, _ => doClear s
  | .none, _ => s
  | .start, .running => s
  | .stop, .stopped => s
  | .lap, .stopped => s

/-- The display source (R213): live `elapsed` for `mode = 0`, the `lap` snapshot for `mode = 1`. -/
def displaySource (mode : Bool) (s : State) : U32 := if mode then s.lap else s.elapsed

/-- The DisplayValue of a display source (R215). -/
def displayValue (f : DispFmt) (src : U32) : Int :=
  match f with
  | .mmsshh => ((format (zext src)).mmsshh : Int)
  | .raw => int32 src

/-- The write of `disp` (R215). -/
def writeDisp (d : Int) (s : State) : State := { s with disp := dispWord d }

/-- The output phase (R213 to R216). -/
def outputPhase (mode : Bool) (s : State) : State :=
  let src := displaySource mode s
  let d := displayValue s.cfg.dispFmt src
  encBody d (writeDisp d (writeFormat (format (zext src)) s))

/-- TICK (R217): sample, event and output phase in this order (R202). -/
def execTick (btn_start btn_stop btn_lap btn_clear mode : Bool) (cv : U32) (irq : Bool) (s : State) :
    Host.Outcome State Fault Refusal :=
  let s := samplePhase cv irq (beginOp s)
  let s := eventPhase (selectEvent btn_start btn_stop btn_lap btn_clear) s
  .next (writeOperr false (outputPhase mode s))

end Sys2Proof.Machine
end

