-- ==== Sys2Proof/Machine/Dispatch.lean ====
section
/-! DEFINITION. The meaning of each operation of spec/opcode_table.json: one arm per constructor of Instr. -/

namespace Sys2Proof.Machine

def exec (i : Instr) (s : State) : Host.Outcome State Fault Refusal :=
  match i with
  | .nop => Sys2Proof.Machine.execNop s
  | .sample cv irq => Sys2Proof.Machine.execSample cv irq s
  | .fmt value => Sys2Proof.Machine.execFmt value s
  | .tick start stop lap clear mode cv irq => Sys2Proof.Machine.execTick start stop lap clear mode cv irq s
  | .enc value => Sys2Proof.Machine.execEnc value s

end Sys2Proof.Machine
end

