-- ==== Sys2Proof/Machine/Cycle.lean ====
section
/-! DEFINITION. One clock edge of the core: what the levels of the input ports make it do (spec/30_encoding.md R104,
R106; spec/70_reset_and_hazards.md R360, R380). -/

namespace Sys2Proof.Machine

/-- One clock edge with the input ports at `p` (R360, R104, R106): `rst` outranks `op`; a defined code runs its
operation, and a reserved code sets OPERR. -/
def cycle (p : Ports) (s : State) : Host.Outcome State Fault Refusal :=
  if p.rst then .next (applyReset s)
  else
    match decode p with
    | .operation i => exec i s
    | .reserved _ => .next (execReserved s)

/-- One step: the next issue of the host, or, where it issues nothing, a cycle in which everything holds
(R100, R380; log entry 1). -/
def stepIssue (s : State) : Host.Outcome State Fault Refusal :=
  match nextIssue s with
  | none => .next s
  | some (p, s') => cycle p s'

end Sys2Proof.Machine
end

