-- ==== Sys2Proof/Machine/Step.lean ====
section
/-! DEFINITION. The step of the core, and the placing of one operation word where the step takes its next issue. -/

namespace Sys2Proof.Machine

/-- One step of the core: one clock edge (R7, R380; log entry 13). -/
def step (s : State) : Host.Outcome State Fault Refusal := stepIssue s

/-- `s` with the operation whose bits are `w` issued next, every operand port at 0 (log entry 3). -/
def State.withFetchWord (s : State) (nbits w : Nat) : State := pushIssue (tablePorts nbits w) s

end Sys2Proof.Machine
end

