-- ==== Sys2Proof/Machine/Assembly.lean ====
section
/-! DEFINITION. The assembly notation of the spec (spec/30_encoding.md R107, R108): what a line stands for, its
encoding as port values, and the reading of a line's text. The notation is the spec's own and no part of the machine;
the machine's step never calls anything of this file. -/

namespace Sys2Proof.Machine

/-- A `<0|1>` operand as a level. -/
def bitLevel (n : Nat) : Bool := decide (n ≠ 0)

/-- The 32 bits of an ENC operand (R107). -/
def encOperandBits : EncOperand → U32
  | .dec n => BitVec.ofInt 32 n
  | .hex p => BitVec.ofNat 32 p

/-- A TICK line: each button name that appears sets that button's input, and an operand left out is 0 (R107). -/
def tickLine (buttons : List Button) (mode cv irq : Option Nat) : Instr :=
  .tick (decide (.start ∈ buttons)) (decide (.stop ∈ buttons)) (decide (.lap ∈ buttons)) (decide (.clear ∈ buttons))
    (bitLevel (mode.getD 0)) (BitVec.ofNat 32 (cv.getD 0)) (bitLevel (irq.getD 0))

/-- The operation a line stands for: R107, and for the pseudo-operations the expansions of R108. -/
def lineInstr : Line → Instr
  | .nop => .nop
  | .sample cv irq => .sample (BitVec.ofNat 32 cv) (bitLevel irq)
  | .fmt value => .fmt (BitVec.ofNat 32 value)
  | .tick buttons mode cv irq => tickLine buttons mode cv irq
  | .enc value => .enc (encOperandBits value)
  | .start cv => tickLine [.start] (some 0) cv (some 0)
  | .stop cv irq => tickLine [.stop] (some 0) cv irq
  | .lap cv irq => tickLine [.lap] (some 0) cv irq
  | .clear => tickLine [.clear] (some 0) (some 0) (some 0)
  | .poll cv irq mode => tickLine [] mode cv irq

/-- The encoding of a line (R107): the `op` code together with the port values it names; `none` for a line whose
numbers are out of range. -/
def assemble (l : Line) : Option Ports := if l.wellFormed then some (encode (lineInstr l)) else none

/-- One word of a line's text: a name, or `key=text`. -/
inductive Token where
  | name (n : List Char)
  | field (key text : List Char)
deriving DecidableEq, Repr

/-- The text of a word, its characters read so far in reverse, as a token list. -/
def closeWord (word : List Char) : List (List Char) := if word.isEmpty then [] else [word.reverse]

/-- The words of a line: spaces, tabs and commas stand between them, and `;` starts a comment (R107). -/
def wordsOf : List Char → List Char → List (List Char)
  | [], word => closeWord word
  | c :: rest, word =>
    if c = ';' then closeWord word
    else if c = ' ' ∨ c = ',' ∨ c = '\t' then closeWord word ++ wordsOf rest []
    else wordsOf rest (c :: word)

/-- A word as a token: split at its first `=`. -/
def tokenOf (word : List Char) : Token :=
  match word.dropWhile (· ≠ '=') with
  | [] => .name word
  | _ :: text => .field (word.takeWhile (· ≠ '=')) text

/-- The value of a digit character below a base. -/
def digitChar (base : Nat) (c : Char) : Option Nat :=
  let v :=
    if '0' ≤ c ∧ c ≤ '9' then c.toNat - '0'.toNat
    else if 'a' ≤ c ∧ c ≤ 'f' then c.toNat - 'a'.toNat + 10
    else if 'A' ≤ c ∧ c ≤ 'F' then c.toNat - 'A'.toNat + 10
    else base
  if v < base then some v else none

/-- The number a list of digits shows, after `acc`. -/
def digitsValue (base : Nat) : List Char → Nat → Option Nat
  | [], acc => some acc
  | c :: rest, acc =>
    match digitChar base c with
    | some d => digitsValue base rest (acc * base + d)
    | none => none

/-- A number (R107): decimal, or hexadecimal with `0x`. -/
def readNat : List Char → Option Nat
  | [] => none
  | ['0', 'x'] => none
  | '0' :: 'x' :: digits => digitsValue 16 digits 0
  | digits => digitsValue 10 digits 0

/-- An ENC operand (R107): a decimal integer, or a hex pattern. -/
def readEncOperand : List Char → Option EncOperand
  | '-' :: '0' :: 'x' :: _ => none
  | '-' :: digits => (readNat digits).map fun n => .dec (-(n : Int))
  | '0' :: 'x' :: digits => (readNat ('0' :: 'x' :: digits)).map .hex
  | digits => (readNat digits).map fun n => .dec n

/-- A button name of TICK (R107). -/
def readButton (n : List Char) : Option Button :=
  if n = "start".toList then some .start
  else if n = "stop".toList then some .stop
  else if n = "lap".toList then some .lap
  else if n = "clear".toList then some .clear
  else none

/-- The names among the tokens, as buttons; `none` if one of them is no button name. -/
def buttonsOf : List Token → Option (List Button)
  | [] => some []
  | .name n :: rest =>
    match readButton n, buttonsOf rest with
    | some b, some bs => some (b :: bs)
    | _, _ => none
  | .field _ _ :: rest => buttonsOf rest

/-- The keys among the tokens. -/
def keysOf : List Token → List (List Char)
  | [] => []
  | .name _ :: rest => keysOf rest
  | .field key _ :: rest => key :: keysOf rest

/-- The text after a key. -/
def textOf (key : String) : List Token → Option (List Char)
  | [] => none
  | .name _ :: rest => textOf key rest
  | .field k text :: rest => if k = key.toList then some text else textOf key rest

/-- The keys are among the allowed ones, none twice. -/
def keysAllowed (allowed : List String) (tokens : List Token) : Bool :=
  decide (keysOf tokens).Nodup && (keysOf tokens).all fun k => (allowed.map String.toList).contains k

/-- A required number operand. -/
def requiredNat (key : String) (tokens : List Token) : Option Nat := (textOf key tokens).bind readNat

/-- An optional number operand; the outer `none` is a text that is no number. -/
def optionalNat (key : String) (tokens : List Token) : Option (Option Nat) :=
  match textOf key tokens with
  | none => some none
  | some text => (readNat text).map some

/-- A line from its mnemonic, its buttons and its operands. -/
def readOperation (mnemonic : List Char) (buttons : List Button) (ts : List Token) : Option Line :=
  if mnemonic = "TICK".toList ∧ keysAllowed ["mode", "cv", "irq"] ts then
    match optionalNat "mode" ts, optionalNat "cv" ts, optionalNat "irq" ts with
    | some mode, some cv, some irq => some (.tick buttons mode cv irq)
    | _, _, _ => none
  else if buttons ≠ [] then none
  else if mnemonic = "NOP".toList ∧ keysAllowed [] ts then some .nop
  else if mnemonic = "CLEAR".toList ∧ keysAllowed [] ts then some .clear
  else if mnemonic = "SAMPLE".toList ∧ keysAllowed ["cv", "irq"] ts then
    match requiredNat "cv" ts, requiredNat "irq" ts with
    | some cv, some irq => some (.sample cv irq)
    | _, _ => none
  else if mnemonic = "FMT".toList ∧ keysAllowed ["value"] ts then (requiredNat "value" ts).map .fmt
  else if mnemonic = "ENC".toList ∧ keysAllowed ["value"] ts then
    ((textOf "value" ts).bind readEncOperand).map .enc
  else if mnemonic = "START".toList ∧ keysAllowed ["cv"] ts then (optionalNat "cv" ts).map .start
  else if mnemonic = "STOP".toList ∧ keysAllowed ["cv", "irq"] ts then
    match optionalNat "cv" ts, optionalNat "irq" ts with
    | some cv, some irq => some (.stop cv irq)
    | _, _ => none
  else if mnemonic = "LAP".toList ∧ keysAllowed ["cv", "irq"] ts then
    match optionalNat "cv" ts, optionalNat "irq" ts with
    | some cv, some irq => some (.lap cv irq)
    | _, _ => none
  else if mnemonic = "POLL".toList ∧ keysAllowed ["cv", "irq", "mode"] ts then
    match optionalNat "cv" ts, optionalNat "irq" ts, optionalNat "mode" ts with
    | some cv, some irq, some mode => some (.poll cv irq mode)
    | _, _, _ => none
  else none

/-- What the text of a line is. -/
inductive LineText where
  | blank
  | operation (l : Line)
  | malformed
deriving DecidableEq, Repr

/-- The reading of a line's text (R107, R108): blank (or a comment alone), an operation, or malformed. -/
def readLine (text : String) : LineText :=
  match wordsOf text.toList [] with
  | [] => .blank
  | mnemonic :: rest =>
    let ts := rest.map tokenOf
    match buttonsOf ts with
    | none => .malformed
    | some buttons =>
      match readOperation mnemonic buttons ts with
      | none => .malformed
      | some l => if l.wellFormed then .operation l else .malformed

end Sys2Proof.Machine
end

