-- ==== Sys2Proof/Safety.lean ====
section
/-! DEFINITION. The words the statements are written in: what a state of the core always satisfies, which registers two
states share, and the contract of the countdown timer that the hazards of spec/70_reset_and_hazards.md rest on. -/

namespace Sys2Proof.Machine

/-! ### What every operation keeps -/

/-- The ranges of the `fmt_*` registers and the packing of `fmt_mmsshh` (R40, R150). -/
structure FormatConsistent (s : State) : Prop where
  mm : s.fmt_mm.toNat < 100
  ss : s.fmt_ss.toNat < 60
  hh : s.fmt_hh.toNat < 100
  mmsshh : s.fmt_mmsshh.toNat = s.fmt_mm.toNat * 10000 + s.fmt_ss.toNat * 100 + s.fmt_hh.toNat

/-- What the encoder flags say of the six slots: RNG and SERR are never both 1, SERR comes with NEG, RNG with all
Blank and SERR with the error glyph (R51, R53, R54, R264, R267), and bit 7 is 0 in every pattern (R260). -/
structure DisplayConsistent (s : State) : Prop where
  exclusive : ¬ (Flags.rng s.flags = true ∧ Flags.serr s.flags = true)
  serr_neg : Flags.serr s.flags = true → Flags.neg s.flags = true
  blank : Flags.rng s.flags = true → s.seg = Vector.replicate 6 blankPattern
  error : Flags.serr s.flags = true → s.seg = s.cfg.seg.err
  dpClear : ∀ i : Fin 6, (s.seg[i]).getLsbD 7 = false

/-- The command lists an operation can emit (R146, R205): at most one CLRIRQ, and that never under COMPARE, then the
commands of at most one Start, Stop or Clear. -/
def CommandsLegal (s : State) : Prop :=
  ∃ front back : List TimerCmd, s.tcmd = front ++ back ∧
    (front = [] ∨ (front = [.clrirq] ∧ s.cfg.wrapDetect ≠ .compare)) ∧
    (back = [] ∨ back = [.load s.cfg.load, .ctrl true true s.cfg.prescaler] ∨
      back = [.ctrl false true s.cfg.prescaler] ∨ back = [.load 0] ∨
      back = [.ctrl false true s.cfg.prescaler, .load 0])

/-- The elapsed formula (R145, R155): `u32(max(0, LOAD - cv) div T + n * Q)`, as a natural. -/
def elapsedFormula (c : Config) (cv n : Nat) : Nat :=
  ((c.load.toNat - cv) / (c.clockHz / (100 * (c.prescaler.toNat + 1))) +
    n * (c.load.toNat / (c.clockHz / (100 * (c.prescaler.toNat + 1))))) % 2 ^ 32

/-- `elapsed` is a function of `last` and `ovf_count`, except while `last` is the `LOAD` a Start has put there
(R155). -/
def AccumulatorConsistent (s : State) : Prop :=
  s.elapsed.toNat = elapsedFormula s.cfg.toConfig s.last.toNat s.ovf_count.toNat ∨ s.last = s.cfg.load

/-- Under MMSSHH the DisplayValue is in [0, 995999] (R215). -/
def DispConsistent (s : State) : Prop := s.cfg.dispFmt = .mmsshh → s.disp.toNat ≤ 995999

/-- What holds of the core from reset on. -/
structure Inv (s : State) : Prop where
  format : FormatConsistent s
  display : DisplayConsistent s
  commands : CommandsLegal s
  accumulator : AccumulatorConsistent s
  disp : DispConsistent s

/-- The stopwatch is cleared and stopped: what the document's Start, Lap, Stop, Clear sequence must leave (R220). -/
structure Cleared (s : State) : Prop where
  run : s.run = .stopped
  elapsed : s.elapsed = 0
  lap : s.lap = 0

/-! ### Frames: the registers two states share -/

/-- What no operation writes: the configuration, and the host's sequence. -/
structure SameFixed (s t : State) : Prop where
  cfg : t.cfg = s.cfg
  issues : t.issues = s.issues

/-- `ovf_count`, `last`, `acc_ticks` and `elapsed` are the same. -/
structure SameAccumulator (s t : State) : Prop where
  ovf_count : t.ovf_count = s.ovf_count
  last : t.last = s.last
  acc_ticks : t.acc_ticks = s.acc_ticks
  elapsed : t.elapsed = s.elapsed

/-- `run` and `lap` are the same. -/
structure SameController (s t : State) : Prop where
  run : t.run = s.run
  lap : t.lap = s.lap

/-- The four `fmt_*` registers are the same. -/
structure SameFormat (s t : State) : Prop where
  mm : t.fmt_mm = s.fmt_mm
  ss : t.fmt_ss = s.fmt_ss
  hh : t.fmt_hh = s.fmt_hh
  mmsshh : t.fmt_mmsshh = s.fmt_mmsshh

/-- `seg[0..5]`, NEG, RNG and SERR are the same. -/
structure SameEncoding (s t : State) : Prop where
  seg : t.seg = s.seg
  neg : Flags.neg t.flags = Flags.neg s.flags
  rng : Flags.rng t.flags = Flags.rng s.flags
  serr : Flags.serr t.flags = Flags.serr s.flags

/-- `NEG`, `RNG`, `SERR` hold these values. -/
structure EncFlags (t : State) (neg rng serr : Bool) : Prop where
  neg : Flags.neg t.flags = neg
  rng : Flags.rng t.flags = rng
  serr : Flags.serr t.flags = serr

/-- What ENC leaves alone (R56): every register but `seg` and `flags`, and WRAP; OPERR is 0 and no command goes
out. -/
structure EncFrame (s t : State) : Prop where
  fixed : SameFixed s t
  controller : SameController s t
  accumulator : SameAccumulator s t
  format : SameFormat s t
  disp : t.disp = s.disp
  wrap : Flags.wrap t.flags = Flags.wrap s.flags
  operr : Flags.operr t.flags = false
  tcmd : t.tcmd = []

/-- The display registers show `src` as TICK's output phase shows it (R214 to R216): `fmt_*` hold its MM:SS:HH
fields, `disp` its DisplayValue, and `seg` and NEG, RNG, SERR are those ENC gives for `disp`. -/
structure Shows (t : State) (src : U32) : Prop where
  mm : t.fmt_mm.toNat = src.toNat / 6000 % 100
  ss : t.fmt_ss.toNat = src.toNat / 100 % 60
  hh : t.fmt_hh.toNat = src.toNat % 100
  mmsshh : t.fmt_mmsshh.toNat = src.toNat / 6000 % 100 * 10000 + src.toNat / 100 % 60 * 100 + src.toNat % 100
  disp_mmsshh : t.cfg.dispFmt = .mmsshh → t.disp.toNat = t.fmt_mmsshh.toNat
  disp_raw : t.cfg.dispFmt = .raw → t.disp = src
  encoded : ∃ w, exec (.enc t.disp) t = .next w ∧ SameEncoding w t

/-- What a TICK leaves alone whatever its event (R56, R205): the fixed fields; and OPERR is 0. -/
structure TickFrame (s t : State) : Prop where
  fixed : SameFixed s t
  operr : Flags.operr t.flags = false

/-! ### Operations and ports -/

/-- The operands of an operation are the levels of the ports R102 lists for it. -/
def OperandsFrom (p : Ports) : Instr → Prop
  | .nop => True
  | .sample cv irq => cv = p.cv ∧ irq = p.irq
  | .fmt value => value = p.value
  | .tick start stop lap clear mode cv irq =>
    start = p.btn_start ∧ stop = p.btn_stop ∧ lap = p.btn_lap ∧ clear = p.btn_clear ∧ mode = p.mode ∧
      cv = p.cv ∧ irq = p.irq
  | .enc value => value = p.value

/-- A clock edge that neither samples directly nor starts the stopwatch: a reset, a reserved code, or an operation
that is no SAMPLE and no TICK with the Start button alone. -/
def KeepsCleared (p : Ports) : Prop :=
  p.rst = true ∨ (p.op ≠ 0b001#3 ∧
    (p.op = 0b011#3 → p.btn_start = false ∨ p.btn_stop = true ∨ p.btn_lap = true ∨ p.btn_clear = true))

/-- A TICK line with no button (R108: POLL). -/
def poll (mode : Bool) (cv : U32) (irq : Bool) : Instr := .tick false false false false mode cv irq

/-- The issue of SAMPLE with no interrupt signalled. -/
def quietSample (cv : U32) : Ports := encode (.sample cv false)

/-! ### The countdown timer, as the hazard rules speak of it -/

/-- The count `c t` of a running countdown timer at timer tick `t` (R326, R370): samples lie in [0, LOAD], the count
repeats with the reload period `P`, and decreases strictly within one period. How long a period is, is the
device's (R327). -/
structure CountsDown (load P : Nat) (c : Nat → Nat) : Prop where
  positive : 0 < P
  bound : ∀ t, c t ≤ load
  periodic : ∀ t, c (t + P) = c t
  decreasing : ∀ t u, t < u → t / P = u / P → c u < c t

/-- Sampling times whose neighbours are less than one period apart (R370). -/
def SampledOften (P : Nat) (ts : List Nat) : Prop := ts.IsChain fun a b => a ≤ b ∧ b < a + P

end Sys2Proof.Machine
end

