-- ==== Sys2Proof/Certificates/Slice0/Obligations.lean ====
section
/-! DEFINITION. The statements for the provers, in the order of the spec's files: encoding and step, reset and
configuration, NOP, SAMPLE, FMT, ENC, TICK, the output ports, whole-machine rules, hazards. -/

open Sys2Proof Sys2Proof.Machine

/-! ### Encoding and step -/

/-- R101: every code of the table, by its three bits, decodes to its operation with its operands at the levels of their
ports, every other code is reserved, and decoding gives back every encoded operation. -/
def Obligations.DecodeAndEncodeAgree : Prop :=
  (∀ i : Instr, decode (encode i) = .operation i ∧ (encode i).rst = false) ∧
  (∀ p : Ports, p.op = 0b000#3 → decode p = .operation .nop) ∧
  (∀ p : Ports, p.op = 0b001#3 → decode p = .operation (.sample p.cv p.irq)) ∧
  (∀ p : Ports, p.op = 0b010#3 → decode p = .operation (.fmt p.value)) ∧
  (∀ p : Ports, p.op = 0b011#3 →
    decode p =
      .operation (.tick p.btn_start p.btn_stop p.btn_lap p.btn_clear p.mode p.cv p.irq)) ∧
  (∀ p : Ports, p.op = 0b100#3 → decode p = .operation (.enc p.value)) ∧
  (∀ p : Ports, 0b101#3 ≤ p.op → decode p = .reserved p.op)

/-- R106 with R59: decoding is total and unambiguous. A port record decodes to an operation exactly when `op` is that
operation's code and its operands are the levels of the ports that R102 lists for it, so no other port is read. -/
def Obligations.DecodingReadsOnlyTheListedPorts : Prop :=
  ∀ (p : Ports) (i : Instr), decode p = .operation i ↔ p.op = i.opcode ∧ OperandsFrom p i

/-- The words of spec/opcode_table.json decode to their rows, and the three reserved codes to none. -/
def Obligations.TableWordsDecode : Prop :=
  decodeTableWord 8 0 = some .nop ∧ decodeTableWord 8 1 = some (.sample 0 false) ∧
  decodeTableWord 8 2 = some (.fmt 0) ∧
  decodeTableWord 8 3 = some (.tick false false false false false 0 false) ∧
  decodeTableWord 8 4 = some (.enc 0) ∧
  decodeTableWord 8 5 = none ∧ decodeTableWord 8 6 = none ∧ decodeTableWord 8 7 = none

/-- R107 and R108: a line whose numbers are in range is encoded, the ports it drives decode to one operation, and the
operands of that operation are the numbers written in the line; a pseudo-operation is its TICK line. For an operand
that TICK leaves out, 0 is R107's default; for one that START, STOP, LAP or POLL leaves out, 0 is the model's choice
(log entry 10), since R108 writes every operand of its expansions. -/
def Obligations.AssemblyLinesMeanTheirNumbers : Prop :=
  ∀ l : Line, l.wellFormed = true →
    ∃ p i, assemble l = some p ∧ p.rst = false ∧ decode p = .operation i ∧
      match l with
      | .nop => i = .nop
      | .sample cv irq => ∃ c b, i = .sample c b ∧ c.toNat = cv ∧ b.toNat = irq
      | .fmt value => ∃ v, i = .fmt v ∧ v.toNat = value
      | .enc (.dec n) => ∃ v, i = .enc v ∧ v.toInt = n
      | .enc (.hex n) => ∃ v, i = .enc v ∧ v.toNat = n
      | .tick buttons mode cv irq =>
        ∃ s x l c m k b, i = .tick s x l c m k b ∧ (s = true ↔ Button.start ∈ buttons) ∧
          (x = true ↔ Button.stop ∈ buttons) ∧ (l = true ↔ Button.lap ∈ buttons) ∧
          (c = true ↔ Button.clear ∈ buttons) ∧ m.toNat = mode.getD 0 ∧ k.toNat = cv.getD 0 ∧
          b.toNat = irq.getD 0
      | .start cv => ∃ k, i = .tick true false false false false k false ∧ k.toNat = cv.getD 0
      | .stop cv irq =>
        ∃ k b, i = .tick false true false false false k b ∧ k.toNat = cv.getD 0 ∧ b.toNat = irq.getD 0
      | .lap cv irq =>
        ∃ k b, i = .tick false false true false false k b ∧ k.toNat = cv.getD 0 ∧ b.toNat = irq.getD 0
      | .clear => i = .tick false false false true false 0 false
      | .poll cv irq mode =>
        ∃ m k b, i = poll m k b ∧ m.toNat = mode.getD 0 ∧ k.toNat = cv.getD 0 ∧ b.toNat = irq.getD 0

/-- A step runs the operation the host issues: with `rst` low, the step is `exec` of the decoded operation, on the state
whose issue has been taken. The list of issues is the model's own (log entry 1). -/
def Obligations.StepRunsTheIssuedOperation : Prop :=
  ∀ (s : State) (p : Ports) (rest : List Ports) (i : Instr),
    s.issues = p :: rest → p.rst = false → decode p = .operation i →
      step s = exec i { s with issues := rest }

/-- Where the host issues nothing, everything holds: the model's reading (log entry 1) of "at most one operation per
clock cycle" (R100) and of outputs that stay valid "until the next issue" (R380). -/
def Obligations.StepWithoutAnIssueHoldsEverything : Prop :=
  ∀ s : State, s.issues = [] → step s = .next s

/-- R104: a reserved code sets OPERR, writes nothing else and emits nothing; every defined operation but NOP leaves
OPERR at 0, and NOP leaves it as it was. -/
def Obligations.ReservedCodeSetsOperrAndNothingElse : Prop :=
  (∀ (s : State) (p : Ports) (rest : List Ports),
    s.issues = p :: rest → p.rst = false → 0b101#3 ≤ p.op →
      ∃ f, step s = .next { s with issues := rest, flags := f, tcmd := [] } ∧
        Flags.operr f = true ∧ Flags.neg f = Flags.neg s.flags ∧ Flags.rng f = Flags.rng s.flags ∧
        Flags.serr f = Flags.serr s.flags ∧ Flags.wrap f = Flags.wrap s.flags) ∧
  (∀ (i : Instr) (s : State), ∃ t, exec i s = .next t ∧
    (i ≠ .nop → Flags.operr t.flags = false) ∧ (i = .nop → Flags.operr t.flags = Flags.operr s.flags))

/-- R320: every operation in every state completes with a next state, and so does every step, whatever the ports
hold: nothing faults, traps or is refused. -/
def Obligations.EveryOperationAndEveryStepCompletes : Prop :=
  (∀ (i : Instr) (s : State), ∃ t, exec i s = .next t) ∧ (∀ s : State, ∃ t, step s = .next t)

/-! ### Reset and configuration -/

/-- R360: with `rst` at 1 every register takes its reset value whatever the state and the other ports hold, and no
command goes out. In particular it does so from the unknown state after power-up (R332). -/
def Obligations.ResetInputRestoresEveryRegister : Prop :=
  ∀ (s : State) (p : Ports) (rest : List Ports), s.issues = p :: rest → p.rst = true →
    ∃ t, step s = .next t ∧ t.cfg = s.cfg ∧ t.issues = rest ∧ t.run = .stopped ∧ t.ovf_count = 0 ∧
      t.last = s.cfg.load ∧ t.acc_ticks = 0 ∧ t.elapsed = 0 ∧ t.lap = 0 ∧
      (∀ i : Fin 6, t.seg[i] = 0x00#8) ∧ t.flags = 0 ∧ t.fmt_mm = 0 ∧ t.fmt_ss = 0 ∧ t.fmt_hh = 0 ∧
      t.fmt_mmsshh = 0 ∧ t.disp = 0 ∧ t.tcmd = []

/-- R361: the reset value of every register, under every configuration. That `State.reset` is the reset state of one
configuration is the model's choice (log entry 2). -/
def Obligations.ResetStateHoldsTheResetValues : Prop :=
  (∀ c : LegalConfig,
    (State.resetWith c).cfg = c ∧ (State.resetWith c).run.bit = 0 ∧ (State.resetWith c).ovf_count = 0 ∧
    (State.resetWith c).last = c.load ∧ (State.resetWith c).acc_ticks = 0 ∧ (State.resetWith c).elapsed = 0 ∧
    (State.resetWith c).lap = 0 ∧ (∀ i : Fin 6, (State.resetWith c).seg[i] = 0x00#8) ∧
    (State.resetWith c).flags = 0 ∧ (State.resetWith c).fmt_mm = 0 ∧ (State.resetWith c).fmt_ss = 0 ∧
    (State.resetWith c).fmt_hh = 0 ∧ (State.resetWith c).fmt_mmsshh = 0 ∧ (State.resetWith c).disp = 0) ∧
  State.reset = State.resetWith State.reset.cfg

/-- The configuration behind `State.reset` has the spec's defaults where the spec has one (R10, R13, R14, R15, R261,
R262); `LOAD` and `PRESCALER` are OPEN and nothing is said of them (log entry 2). -/
def Obligations.ResetConfigurationHasTheDefaults : Prop :=
  State.reset.cfg.clockHz = 200000000 ∧ State.reset.cfg.wrapDetect = .irq ∧
  State.reset.cfg.dispFmt = .mmsshh ∧ State.reset.cfg.onesForce = true ∧
  State.reset.cfg.seg.dig.toList =
    [0x3F#8, 0x06#8, 0x5B#8, 0x4F#8, 0x66#8, 0x6D#8, 0x7D#8, 0x07#8, 0x7F#8, 0x6F#8] ∧
  State.reset.cfg.seg.minus = 0x40#8 ∧
  State.reset.cfg.seg.err.toList = [0x00#8, 0x50#8, 0x5C#8, 0x50#8, 0x50#8, 0x79#8]

/-- R11: `T = CLOCK_HZ div (100 * (PRESCALER + 1))`; a configuration with `T = 0` is refused before any step; and at
the default clock every prescaler is legal, with `T >= 7812`, reached at prescaler 255. The last clause, that a legal
configuration boots into its reset state, is no rule of the spec: it is the model's choice (log entry 11), its form of
R363's first two steps. -/
def Obligations.BootRefusesATickRateOfZero : Prop :=
  (∀ c : Config, ticksPerHundredth c = c.clockHz / (100 * (c.prescaler.toNat + 1))) ∧
  (∀ c : Config, ¬ 1 ≤ ticksPerHundredth c → State.boot c = .refused .illegalConfiguration) ∧
  (∀ c : Config, (1 ≤ ticksPerHundredth c ↔ 100 * (c.prescaler.toNat + 1) ≤ c.clockHz)) ∧
  (∀ c : Config, c.clockHz = 200000000 →
    7812 ≤ ticksPerHundredth c ∧ (c.prescaler = 255 → ticksPerHundredth c = 7812)) ∧
  (∀ c : LegalConfig, 1 ≤ ticksPerHundredth c.toConfig ∧ State.boot c.toConfig = .next (State.resetWith c))

/-- R364: no step changes the configuration, and each step takes one issue of the host's sequence and no more. -/
def Obligations.ConfigurationIsConstant : Prop :=
  ∀ s t : State, step s = .next t → t.cfg = s.cfg ∧ t.issues = s.issues.tail

/-! ### NOP -/

/-- R200: NOP writes no register, OPERR included, and emits nothing. -/
def Obligations.NopWritesNothing : Prop :=
  ∀ s : State, ∃ t, exec .nop s = .next t ∧ SameFixed s t ∧ SameController s t ∧ SameAccumulator s t ∧
    SameFormat s t ∧ t.disp = s.disp ∧ t.seg = s.seg ∧ t.flags = s.flags ∧ t.tcmd = []

/-! ### SAMPLE and FMT -/

/-- R147: the whole result of SAMPLE, in all three wrap-detection modes and whatever `run` is, in the arithmetic of the
registers' own widths, with its frame. -/
def Obligations.SampleCountsAndAccumulates : Prop :=
  ∀ (s : State) (cv : U32) (irq wrap : Bool),
    (match s.cfg.wrapDetect with
      | .irq => wrap = irq
      | .compare => (wrap = true ↔ s.last < cv)
      | .combined => (wrap = true ↔ (irq = true ∨ s.last < cv))) →
    ∃ t, exec (.sample cv irq) s = .next t ∧
      t.ovf_count = s.ovf_count + (if wrap then 1 else 0) ∧
      t.acc_ticks = s.acc_ticks + cv.zeroExtend 64 - (if wrap then 0 else s.last.zeroExtend 64) ∧
      t.last = cv ∧
      t.elapsed.toNat = elapsedFormula s.cfg.toConfig cv.toNat t.ovf_count.toNat ∧
      Flags.wrap t.flags = wrap ∧ Flags.operr t.flags = false ∧
      t.tcmd = (if irq = true ∧ s.cfg.wrapDetect ≠ .compare then [.clrirq] else []) ∧
      SameFixed s t ∧ SameController s t ∧ SameFormat s t ∧ t.disp = s.disp ∧ SameEncoding s t

/-- R151 with R150: FMT writes the four `fmt_*` registers, each with its exact number, for every `value` read as
unsigned, and writes nothing else but OPERR. -/
def Obligations.FmtSplitsHundredths : Prop :=
  ∀ (s : State) (value : U32), ∃ t, exec (.fmt value) s = .next t ∧
    t.fmt_mm.toNat = value.toNat / 6000 % 100 ∧ t.fmt_ss.toNat = value.toNat / 100 % 60 ∧
    t.fmt_hh.toNat = value.toNat % 100 ∧
    t.fmt_mmsshh.toNat =
      value.toNat / 6000 % 100 * 10000 + value.toNat / 100 % 60 * 100 + value.toNat % 100 ∧
    Flags.operr t.flags = false ∧ t.tcmd = [] ∧
    SameFixed s t ∧ SameController s t ∧ SameAccumulator s t ∧ t.disp = s.disp ∧ SameEncoding s t ∧
    Flags.wrap t.flags = Flags.wrap s.flags

/-- From R150 (the note that ends spec/40_accumulator.md section 3): the three fields together are the count modulo
600000, the 100 minutes after which the minutes wrap, so FMT loses nothing below that. -/
def Obligations.FmtFieldsRecombine : Prop :=
  ∀ (s t : State) (value : U32), exec (.fmt value) s = .next t →
    t.fmt_mm.toNat * 6000 + t.fmt_ss.toNat * 100 + t.fmt_hh.toNat = value.toNat % 600000

/-- R154, the wrap property of the document's section 8, which the spec derives from R147, over a whole run: under COMPARE
or COMBINED, from `last = LOAD`, in-range samples that never increase and then one that does, with no interrupt
signalled and no wrap-around of `ovf_count`, count exactly one wrap; and where the last sample's elapsed hundredths are
below 2^32 too, so that `elapsed` does not wrap around either, `elapsed` never falls from a sample to the next. -/
def Obligations.OneWrapIsCountedAcrossADescent : Prop :=
  ∀ (s : State) (cvs : List U32) (cv : U32),
    s.cfg.wrapDetect ≠ .irq → s.last = s.cfg.load → s.issues = (cvs ++ [cv]).map quietSample →
    (s.cfg.load :: cvs).IsChain (fun a b => b ≤ a) → cvs.getLastD s.cfg.load < cv → cv ≤ s.cfg.load →
    s.ovf_count.toNat + 1 < 2 ^ 32 →
    (∃ u, Sys2Proof.core.run cvs.length s = .next u ∧ u.ovf_count = s.ovf_count) ∧
    (∃ u, Sys2Proof.core.run (cvs.length + 1) s = .next u ∧ u.ovf_count.toNat = s.ovf_count.toNat + 1) ∧
    ((s.cfg.load.toNat - cv.toNat) / ticksPerHundredth s.cfg.toConfig +
        (s.ovf_count.toNat + 1) * hundredthsPerWrap s.cfg.toConfig < 2 ^ 32 →
      ∀ k, 1 ≤ k → k ≤ cvs.length → ∃ u v, Sys2Proof.core.run k s = .next u ∧
        Sys2Proof.core.run (k + 1) s = .next v ∧ u.elapsed ≤ v.elapsed)

/-! ### ENC -/

/-- R264, R53: a value outside [-999999, 999999] blanks all six slots and sets RNG, with NEG its sign; with the frame of
ENC. -2^31 is among them. -/
def Obligations.EncBlanksOutOfRange : Prop :=
  ∀ (s : State) (value : U32), (value.toInt < -999999 ∨ 999999 < value.toInt) →
    ∃ t, exec (.enc value) s = .next t ∧ (∀ i : Fin 6, t.seg[i] = 0x00#8) ∧
      EncFlags t (decide (value.toInt < 0)) true false ∧ EncFrame s t

/-- R267: exactly the values of [-999999, -100000], negative with a six-digit magnitude, take the sign-overflow path:
SERR is set for them and for no others, and they show the error glyph in place of a number. -/
def Obligations.EncShowsErrorOnSignOverflow : Prop :=
  ∀ (s : State) (value : U32), ∃ t, exec (.enc value) s = .next t ∧ EncFrame s t ∧
    (Flags.serr t.flags = true ↔ -999999 ≤ value.toInt ∧ value.toInt ≤ -100000) ∧
    (-999999 ≤ value.toInt → value.toInt ≤ -100000 → t.seg = s.cfg.seg.err ∧ EncFlags t true false true)

/-- R52, R53: NEG is set exactly for a negative operand, whichever path ENC takes, RNG exactly for a magnitude above
999999, and never RNG and SERR together; OPERR is 0 after every ENC. -/
def Obligations.EncFlagsNameThePath : Prop :=
  ∀ (s : State) (value : U32), ∃ t, exec (.enc value) s = .next t ∧
    (Flags.neg t.flags = true ↔ value.toInt < 0) ∧ (Flags.rng t.flags = true ↔ 999999 < value.toInt.natAbs) ∧
    ¬ (Flags.rng t.flags = true ∧ Flags.serr t.flags = true) ∧ Flags.operr t.flags = false

/-- R266, R268, R269: every other value is rendered slot by slot: "0" in slot 0 for zero and, under ONES_FORCE, for
every value above 15; below the most significant digit the decimal digits; above it the minus sign of a negative
value; and Blank beyond. -/
def Obligations.EncRendersDigits : Prop :=
  ∀ (s : State) (value : U32), -99999 ≤ value.toInt → value.toInt ≤ 999999 →
    ∃ t, exec (.enc value) s = .next t ∧
      (∀ i : Fin 6, some t.seg[i] =
        if i = 0 ∧ (value.toInt = 0 ∨ (s.cfg.onesForce = true ∧ 15 < value.toInt)) then s.cfg.seg.dig[0]?
        else if 10 ^ i.val ≤ value.toInt.natAbs then s.cfg.seg.dig[value.toInt.natAbs / 10 ^ i.val % 10]?
        else if value.toInt < 0 ∧ 10 ^ (i.val - 1) ≤ value.toInt.natAbs then some s.cfg.seg.minus
        else some 0x00#8) ∧
      EncFlags t (decide (value.toInt < 0)) false false ∧ EncFrame s t

/-- R270: what ENC writes to `seg` and to NEG, RNG, SERR is a function of the operand, `SEG` and `ONES_FORCE` alone: two
cores that agree in these two parameters, whatever else they hold or are configured for, give the same. -/
def Obligations.EncIsPure : Prop :=
  ∀ (s u : State) (value : U32), u.cfg.seg = s.cfg.seg → u.cfg.onesForce = s.cfg.onesForce →
    ∃ t v, exec (.enc value) s = .next t ∧ exec (.enc value) u = .next v ∧ SameEncoding t v

/-- With ONES_FORCE off (R15) and a glyph table whose digits, minus sign and Blank are all different, the display tells
every two values of [-99999, 999999] apart. Derived from R266, R268 and R269; the spec does not state it. -/
def Obligations.EncWithoutForcingIsInjective : Prop :=
  ∀ (s t u : State) (a b : U32), s.cfg.onesForce = false →
    (s.cfg.seg.dig.toList ++ [s.cfg.seg.minus, blankPattern]).Nodup →
    -99999 ≤ a.toInt → a.toInt ≤ 999999 → -99999 ≤ b.toInt → b.toInt ≤ 999999 →
    exec (.enc a) s = .next t → exec (.enc b) s = .next u → t.seg = u.seg → a = b

/-! ### TICK -/

/-- R204: while Running, TICK samples as SAMPLE does, before its event: WRAP is SAMPLE's, the commands begin with
SAMPLE's, and without a Clear the accumulator registers are SAMPLE's. -/
def Obligations.TickSamplesWhileRunning : Prop :=
  ∀ (s : State) (start stop lap clear mode : Bool) (cv : U32) (irq : Bool), s.run = .running →
    ∃ u t, exec (.sample cv irq) s = .next u ∧ exec (.tick start stop lap clear mode cv irq) s = .next t ∧
      Flags.wrap t.flags = Flags.wrap u.flags ∧ u.tcmd <+: t.tcmd ∧
      (clear = false → SameAccumulator u t) ∧ TickFrame s t

/-- R204: while Stopped, TICK reads neither `cv` nor `irq`, sets WRAP to 0, clears no interrupt, and without a Clear
or a Start leaves the accumulator registers alone. -/
def Obligations.TickIgnoresTheSampleWhileStopped : Prop :=
  ∀ (s : State) (start stop lap clear mode : Bool) (cv cv' : U32) (irq irq' : Bool), s.run = .stopped →
    ∃ t, exec (.tick start stop lap clear mode cv irq) s = .next t ∧
      exec (.tick start stop lap clear mode cv' irq') s = .next t ∧
      Flags.wrap t.flags = false ∧ TimerCmd.clrirq ∉ t.tcmd ∧
      (clear = false → start = false → SameAccumulator s t) ∧ TickFrame s t

/-- R203: at most one event per tick: Clear, then Stop, then Lap, then Start; an outranked button is as if it were not
pressed. -/
def Obligations.TickTakesOneEvent : Prop :=
  ∀ (s : State) (start stop lap clear mode : Bool) (cv : U32) (irq : Bool),
    exec (.tick start stop lap true mode cv irq) s = exec (.tick false false false true mode cv irq) s ∧
    exec (.tick start true lap false mode cv irq) s = exec (.tick false true false false mode cv irq) s ∧
    exec (.tick start false true false mode cv irq) s = exec (.tick false false true false mode cv irq) s ∧
    ∃ t, exec (.tick start stop lap clear mode cv irq) s = .next t

/-- R208: Start while Stopped loads and arms the timer in that order, sets `last` to LOAD and runs; the counts and the
lap are kept. -/
def Obligations.TickStartArmsTheTimer : Prop :=
  ∀ (s : State) (mode : Bool) (cv : U32) (irq : Bool), s.run = .stopped →
    ∃ t, exec (.tick true false false false mode cv irq) s = .next t ∧
      t.tcmd = [.load s.cfg.load, .ctrl true true s.cfg.prescaler] ∧ t.run = .running ∧
      t.last = s.cfg.load ∧ t.ovf_count = s.ovf_count ∧ t.acc_ticks = s.acc_ticks ∧
      t.elapsed = s.elapsed ∧ t.lap = s.lap ∧ Flags.wrap t.flags = false ∧ TickFrame s t ∧
      Shows t (if mode then s.lap else s.elapsed)

/-- R209: Stop while Running takes the tick's sample, disables the timer with auto-reload and prescaler as Start wrote
them, and stops. -/
def Obligations.TickStopDisablesTheTimer : Prop :=
  ∀ (s : State) (start lap mode : Bool) (cv : U32) (irq : Bool), s.run = .running →
    ∃ u t, exec (.sample cv irq) s = .next u ∧ exec (.tick start true lap false mode cv irq) s = .next t ∧
      t.tcmd = u.tcmd ++ [.ctrl false true s.cfg.prescaler] ∧ t.run = .stopped ∧ SameAccumulator u t ∧
      t.lap = s.lap ∧ Flags.wrap t.flags = Flags.wrap u.flags ∧ TickFrame s t ∧
      Shows t (if mode then s.lap else u.elapsed)

/-- R210: Lap while Running copies the `elapsed` of the tick's own sample into `lap`, emits no command of its own and
does not stop the timer. -/
def Obligations.TickLapSnapshotsElapsed : Prop :=
  ∀ (s : State) (start mode : Bool) (cv : U32) (irq : Bool), s.run = .running →
    ∃ u t, exec (.sample cv irq) s = .next u ∧ exec (.tick start false true false mode cv irq) s = .next t ∧
      t.lap = u.elapsed ∧ t.tcmd = u.tcmd ∧ t.run = .running ∧ SameAccumulator u t ∧
      Flags.wrap t.flags = Flags.wrap u.flags ∧ TickFrame s t ∧ Shows t u.elapsed

/-- R211: Clear, in either state and whatever else is pressed, zeroes the counts, the lap and `acc_ticks`, sets `last` to
LOAD and stops; while Running it disables the timer first; then it sends LOAD(0), after whatever the sample sent. -/
def Obligations.TickClearReturnsToZero : Prop :=
  ∀ (s : State) (start stop lap mode : Bool) (cv : U32) (irq : Bool),
    ∃ t, exec (.tick start stop lap true mode cv irq) s = .next t ∧
      t.run = .stopped ∧ t.ovf_count = 0 ∧ t.lap = 0 ∧ t.elapsed = 0 ∧ t.acc_ticks = 0 ∧
      t.last = s.cfg.load ∧ TickFrame s t ∧ Shows t 0 ∧
      (s.run = .stopped → t.tcmd = [.load 0] ∧ Flags.wrap t.flags = false) ∧
      (s.run = .running → ∃ u, exec (.sample cv irq) s = .next u ∧
        t.tcmd = u.tcmd ++ [.ctrl false true s.cfg.prescaler, .load 0] ∧
        Flags.wrap t.flags = Flags.wrap u.flags)

/-- R207, R212: with no button, and for Start while Running, Stop while Stopped and Lap while Stopped, the event writes
nothing and emits nothing: `run` and `lap` hold, and the commands are the sample's alone. -/
def Obligations.TickWithoutAnEffectiveEventOnlySamples : Prop :=
  ∀ (s : State) (start stop lap mode : Bool) (cv : U32) (irq : Bool),
    (stop = true ∨ lap = true → s.run = .stopped) →
    (start = true → stop = false → lap = false → s.run = .running) →
    ∃ t, exec (.tick start stop lap false mode cv irq) s = .next t ∧
      exec (poll mode cv irq) s = .next t ∧ SameController s t ∧ TickFrame s t ∧
      (s.run = .stopped → SameAccumulator s t ∧ t.tcmd = [] ∧ Shows t (if mode then s.lap else s.elapsed)) ∧
      (s.run = .running → ∃ u, exec (.sample cv irq) s = .next u ∧ SameAccumulator u t ∧
        t.tcmd = u.tcmd ∧ Shows t (if mode then s.lap else u.elapsed))

/-- R213 to R216: every TICK, whatever its event, ends by showing the `elapsed` it leaves, or with `mode` at 1 the
`lap` it leaves: `fmt_*`, `disp`, `seg` and the encoder's flags are that value's. -/
def Obligations.TickShowsItsSource : Prop :=
  ∀ (s : State) (start stop lap clear mode : Bool) (cv : U32) (irq : Bool),
    ∃ t, exec (.tick start stop lap clear mode cv irq) s = .next t ∧ Shows t (if mode then t.lap else t.elapsed)

/-- R213: the display-mode switch has no side effect: two ticks that differ in `mode` alone leave the same `run`, `lap`,
accumulator, WRAP, OPERR and commands. -/
def Obligations.ModeSwitchHasNoSideEffect : Prop :=
  ∀ (s : State) (start stop lap clear : Bool) (cv : U32) (irq : Bool),
    ∃ t u, exec (.tick start stop lap clear false cv irq) s = .next t ∧
      exec (.tick start stop lap clear true cv irq) s = .next u ∧ SameFixed t u ∧ SameController t u ∧
      SameAccumulator t u ∧ u.tcmd = t.tcmd ∧ Flags.wrap u.flags = Flags.wrap t.flags ∧
      Flags.operr u.flags = Flags.operr t.flags

/-- R215: under RAW the display is the hundredths count read as two's complement: rendered up to 999999, all Blank with
RNG from 1000000 to 2^32 - 1000000, the error glyph with SERR from 2^32 - 999999 to 2^32 - 100000, and a negative
number above that. -/
def Obligations.RawDisplayByRange : Prop :=
  ∀ (s : State) (start stop lap clear mode : Bool) (cv : U32) (irq : Bool), s.cfg.dispFmt = .raw →
    ∃ t src, exec (.tick start stop lap clear mode cv irq) s = .next t ∧
      src = (if mode then t.lap else t.elapsed) ∧ t.disp = src ∧
      (src.toNat ≤ 999999 → EncFlags t false false false) ∧
      (1000000 ≤ src.toNat → src.toNat < 2 ^ 32 - 999999 →
        Flags.rng t.flags = true ∧ ∀ i : Fin 6, t.seg[i] = 0x00#8) ∧
      (2 ^ 32 - 999999 ≤ src.toNat → src.toNat ≤ 2 ^ 32 - 100000 →
        EncFlags t true false true ∧ t.seg = s.cfg.seg.err) ∧
      (2 ^ 32 - 100000 < src.toNat → EncFlags t true false false)

/-- From R211 (spec/41_controller.md section 6, "Idempotence"): after one Clear from Stopped a second Clear with the same
`mode` gives the same state again. -/
def Obligations.ClearTwiceIsClearOnce : Prop :=
  ∀ (s : State) (mode : Bool) (cv cv' : U32) (irq irq' : Bool), s.run = .stopped →
    ∃ t, exec (.tick false false false true mode cv irq) s = .next t ∧
      exec (.tick false false false true mode cv' irq') t = .next t

/-- From R204 and R217 (spec/41_controller.md section 6, cadence independence): a second no-button tick with the same
`cv`, no interrupt and the same `mode` changes nothing but WRAP, which reports the last sample; and where the first
tick counted no wrap it changes nothing at all (log entry 8). -/
def Obligations.RepeatedTickAddsNothing : Prop :=
  ∀ (s : State) (mode : Bool) (cv : U32), ∃ t u,
    exec (poll mode cv false) s = .next t ∧ exec (poll mode cv false) t = .next u ∧
    u = { t with flags := u.flags } ∧ EncFlags u (Flags.neg t.flags) (Flags.rng t.flags) (Flags.serr t.flags) ∧
    Flags.operr u.flags = Flags.operr t.flags ∧ Flags.wrap u.flags = false ∧
    (Flags.wrap t.flags = false → u = t)

/-- From R208, R147 (the sequence of the document's section 8): Start, then any ticks without a button, then Lap, Stop
and Clear, from any state and with any samples, leaves `elapsed` and `lap` at 0 and the stopwatch Stopped. -/
def Obligations.StartLapStopClearLeavesZero : Prop :=
  ∀ (s : State) (polls : List (Bool × U32 × Bool)) (m m1 m2 m3 : Bool) (c c1 c2 c3 : U32) (q q1 q2 q3 : Bool),
    s.issues = [encode (.tick true false false false m c q)] ++
      polls.map (fun x => encode (poll x.1 x.2.1 x.2.2)) ++
      [encode (.tick false false true false m1 c1 q1), encode (.tick false true false false m2 c2 q2),
        encode (.tick false false false true m3 c3 q3)] →
    (∃ u, Sys2Proof.core.run (polls.length + 2) s = .next u ∧ u.run = .running ∧ u.lap = u.elapsed) ∧
    (∃ t, Sys2Proof.core.run (polls.length + 4) s = .next t ∧ Cleared t ∧ t.ovf_count = 0 ∧
      t.last = s.cfg.load ∧ t.issues = [])

/-- From R204 and R211 (spec/41_controller.md section 6): once cleared and stopped, the core stays so through every run
whose issues hold no direct SAMPLE and no Start pressed alone, whatever else the host issues. -/
def Obligations.ClearedStaysClearedUntilStart : Prop :=
  ∀ (s : State) (n : Nat), Cleared s → (∀ p ∈ s.issues, KeepsCleared p) →
    ∃ t, Sys2Proof.core.run n s = .next t ∧ Cleared t

/-! ### The output ports -/

/-- R81: the two packed display words: slot i in byte i of its word, least significant byte first, and the upper half
of `hex_hi` zero. -/
def Obligations.DisplayWordsPackTheSlots : Prop :=
  ∀ s : State,
    (outputs s).hex_lo.toNat =
      s.seg[0].toNat + 2 ^ 8 * s.seg[1].toNat + 2 ^ 16 * s.seg[2].toNat + 2 ^ 24 * s.seg[3].toNat ∧
    (outputs s).hex_hi.toNat = s.seg[4].toNat + 2 ^ 8 * s.seg[5].toNat

/-- R41: every register shows on the output port of its name, and `run` as its bit (R44). -/
def Obligations.OutputPortsShowTheRegisters : Prop :=
  ∀ s : State,
    ((outputs s).run = 1 ↔ s.run = .running) ∧ (outputs s).ovf_count = s.ovf_count ∧
    (outputs s).last = s.last ∧ (outputs s).acc_ticks = s.acc_ticks ∧ (outputs s).elapsed = s.elapsed ∧
    (outputs s).lap = s.lap ∧ (outputs s).seg = s.seg ∧ (outputs s).flags = s.flags ∧
    (outputs s).fmt_mm = s.fmt_mm ∧ (outputs s).fmt_ss = s.fmt_ss ∧ (outputs s).fmt_hh = s.fmt_hh ∧
    (outputs s).fmt_mmsshh = s.fmt_mmsshh ∧ (outputs s).disp = s.disp ∧ (outputs s).tcmd = s.tcmd

/-! ### Whole-machine rules -/

/-- The write matrix (R56, which the spec derives from its operation rules), row by row, over the five operations:
which of them can change which registers at all. -/
def Obligations.WriteMatrixHolds : Prop :=
  ∀ (i : Instr) (s t : State), exec i s = .next t →
    SameFixed s t ∧
    ((∀ a b c d m k q, i ≠ .tick a b c d m k q) → SameController s t ∧ t.disp = s.disp) ∧
    ((∀ a b c d m k q, i ≠ .tick a b c d m k q) → (∀ k q, i ≠ .sample k q) →
      SameAccumulator s t ∧ Flags.wrap t.flags = Flags.wrap s.flags ∧ t.tcmd = []) ∧
    ((∀ a b c d m k q, i ≠ .tick a b c d m k q) → (∀ v, i ≠ .fmt v) → SameFormat s t) ∧
    ((∀ a b c d m k q, i ≠ .tick a b c d m k q) → (∀ v, i ≠ .enc v) → SameEncoding s t) ∧
    Flags.operr t.flags = (decide (i = .nop) && Flags.operr s.flags)

/-- From R44 and R49 (spec/10_state.md section 3): `run` changes only by a TICK with an effective Start, Stop or Clear, and
`lap` stays frozen but for a TICK with an effective Lap or a Clear. -/
def Obligations.RunAndLapChangeOnlyByTheirEvents : Prop :=
  ∀ (i : Instr) (s t : State), exec i s = .next t →
    (t.run ≠ s.run → ∃ start stop lap clear mode cv irq, i = .tick start stop lap clear mode cv irq ∧
      ((s.run = .stopped ∧ start = true ∧ stop = false ∧ lap = false ∧ clear = false) ∨
       (s.run = .running ∧ (stop = true ∨ clear = true)))) ∧
    (t.lap ≠ s.lap → ∃ start stop lap clear mode cv irq, i = .tick start stop lap clear mode cv irq ∧
      (clear = true ∨ (s.run = .running ∧ stop = false ∧ lap = true)))

/-- From R47 ("No rule of the core reads acc_ticks"): two states that differ in `acc_ticks` alone take every operation
to states that differ in `acc_ticks` alone. -/
def Obligations.AccTicksIsNeverRead : Prop :=
  ∀ (i : Instr) (s : State) (x : S64), ∃ t y, exec i s = .next t ∧
    exec i { s with acc_ticks := x } = .next { t with acc_ticks := y }

/-- From R323 (spec/60_exceptions.md section 2): CLRIRQ goes out exactly where an observed `irq = 1` is counted: in a
SAMPLE, or in a TICK while Running, and never under COMPARE. -/
def Obligations.InterruptIsClearedExactlyWhereCounted : Prop :=
  ∀ (i : Instr) (s : State), ∃ t, exec i s = .next t ∧
    (TimerCmd.clrirq ∈ t.tcmd ↔ s.cfg.wrapDetect ≠ .compare ∧
      ((∃ k, i = .sample k true) ∨ (s.run = .running ∧ ∃ a b c d m k, i = .tick a b c d m k true))) ∧
    (TimerCmd.clrirq ∈ t.tcmd → Flags.wrap t.flags = true)

/-- The invariant of the core holds right after reset, under every configuration. -/
def Obligations.InvariantHoldsAtReset : Prop :=
  (∀ c : LegalConfig, Inv (State.resetWith c)) ∧ Inv State.reset

/-- Every step from a state with the invariant leads to a state with the invariant: the ranges of the `fmt_*` registers,
what the flags say of the slots, bit 7 of every pattern (log entry 4), the shape of the command list, the elapsed
formula, and the range of `disp`. -/
def Obligations.EveryStepKeepsTheInvariant : Prop :=
  ∀ s t : State, Inv s → step s = .next t → Inv t

/-! ### Hazards -/

/-- From R208: setting `last` to LOAD at Start keeps the first sample after it from counting a false wrap, whatever `last`
was before; and that sample's `elapsed` is the formula's over the count kept from before the Stop (R375). -/
def Obligations.FirstSampleAfterStartCountsNoFalseWrap : Prop :=
  ∀ (s : State) (m m' : Bool) (c cv : U32) (q : Bool), s.run = .stopped → cv ≤ s.cfg.load →
    ∃ u t, exec (.tick true false false false m c q) s = .next u ∧ exec (poll m' cv false) u = .next t ∧
      t.ovf_count = s.ovf_count ∧ Flags.wrap t.flags = false ∧
      t.elapsed.toNat = elapsedFormula s.cfg.toConfig cv.toNat s.ovf_count.toNat

/-- From R204 and R208 (the hazard of spec/70_reset_and_hazards.md section 3): under IRQ or COMBINED an interrupt left
pending while Stopped is neither counted nor cleared, and the first tick after the next Start counts and clears it,
whatever its sample. -/
def Obligations.PendingInterruptIsCountedAfterStart : Prop :=
  ∀ (s : State) (m m' m'' : Bool) (a c cv : U32) (q : Bool), s.run = .stopped → s.cfg.wrapDetect ≠ .compare →
    ∃ w u t, exec (poll m a true) s = .next w ∧ w.ovf_count = s.ovf_count ∧ w.tcmd = [] ∧
      exec (.tick true false false false m' c q) w = .next u ∧ exec (poll m'' cv true) u = .next t ∧
      t.ovf_count = s.ovf_count + 1 ∧ t.tcmd = [.clrirq]

/-- From R143 (the double count of spec/70_reset_and_hazards.md section 3): under COMBINED a wrap seen by the comparison
is counted a second time when its interrupt is seen by the next sample. -/
def Obligations.CombinedCountsOneWrapTwice : Prop :=
  ∀ (s : State) (cv cv' : U32), s.cfg.wrapDetect = .combined → s.last < cv →
    ∃ u t, exec (.sample cv false) s = .next u ∧ exec (.sample cv' true) u = .next t ∧
      t.ovf_count = s.ovf_count + 2 ∧ u.tcmd = [] ∧ t.tcmd = [.clrirq]

/-- From R143 and the device contract of R326 (the cadence rule of spec/70_reset_and_hazards.md section 3): under
COMPARE, if a running timer is sampled at times less than one reload period apart, every wrap is counted exactly
once: after any such run `ovf_count` has grown by the number of periods that went by, modulo 2^32, and `elapsed` is the
formula's over it. -/
def Obligations.SamplingWithinAPeriodCountsEveryWrap : Prop :=
  ∀ (s : State) (P : Nat) (c : Nat → Nat) (t0 : Nat) (ts : List Nat),
    s.cfg.wrapDetect = .compare → CountsDown s.cfg.load.toNat P c → s.last.toNat = c t0 →
    SampledOften P (t0 :: ts) → ts ≠ [] →
    s.issues = ts.map (fun t => quietSample (BitVec.ofNat 32 (c t))) →
    ∃ u, Sys2Proof.core.run ts.length s = .next u ∧
      u.ovf_count.toNat = (s.ovf_count.toNat + (ts.getLastD t0 / P - t0 / P)) % 2 ^ 32 ∧
      u.last.toNat = c (ts.getLastD t0) ∧
      u.elapsed.toNat = elapsedFormula s.cfg.toConfig (c (ts.getLastD t0)) u.ovf_count.toNat
end

