-- ==== Sys2Proof/Laws/Flags.lean ====
section
/-! SUPPORT. The status register: what each write does to each bit. -/

namespace Sys2Proof.Machine

@[simp] theorem Flags.neg_pack (a b c d e : Bool) : Flags.neg (Flags.pack a b c d e) = a := by
  revert a b c d e; decide

@[simp] theorem Flags.rng_pack (a b c d e : Bool) : Flags.rng (Flags.pack a b c d e) = b := by
  revert a b c d e; decide

@[simp] theorem Flags.serr_pack (a b c d e : Bool) : Flags.serr (Flags.pack a b c d e) = c := by
  revert a b c d e; decide

@[simp] theorem Flags.wrap_pack (a b c d e : Bool) : Flags.wrap (Flags.pack a b c d e) = d := by
  revert a b c d e; decide

@[simp] theorem Flags.operr_pack (a b c d e : Bool) : Flags.operr (Flags.pack a b c d e) = e := by
  revert a b c d e; decide

/-- The five bits are the whole register. -/
theorem Flags.pack_bits (f : BitVec 5) :
    Flags.pack (Flags.neg f) (Flags.rng f) (Flags.serr f) (Flags.wrap f) (Flags.operr f) = f := by
  revert f; decide

/-- Two status registers with equal bits are equal. -/
theorem Flags.eq_of_bits {f g : BitVec 5} (h0 : Flags.neg f = Flags.neg g) (h1 : Flags.rng f = Flags.rng g)
    (h2 : Flags.serr f = Flags.serr g) (h3 : Flags.wrap f = Flags.wrap g) (h4 : Flags.operr f = Flags.operr g) :
    f = g := by
  rw [← Flags.pack_bits f, ← Flags.pack_bits g, h0, h1, h2, h3, h4]

section setEnc
variable (n r s : Bool) (f : BitVec 5)

@[simp] theorem Flags.neg_setEnc : Flags.neg (Flags.setEnc n r s f) = n := Flags.neg_pack ..
@[simp] theorem Flags.rng_setEnc : Flags.rng (Flags.setEnc n r s f) = r := Flags.rng_pack ..
@[simp] theorem Flags.serr_setEnc : Flags.serr (Flags.setEnc n r s f) = s := Flags.serr_pack ..
@[simp] theorem Flags.wrap_setEnc : Flags.wrap (Flags.setEnc n r s f) = Flags.wrap f := Flags.wrap_pack ..
@[simp] theorem Flags.operr_setEnc : Flags.operr (Flags.setEnc n r s f) = Flags.operr f := Flags.operr_pack ..

end setEnc

section setBit
variable (b : Bool) (f : BitVec 5)

@[simp] theorem Flags.neg_setWrap : Flags.neg (Flags.setWrap b f) = Flags.neg f := Flags.neg_pack ..
@[simp] theorem Flags.rng_setWrap : Flags.rng (Flags.setWrap b f) = Flags.rng f := Flags.rng_pack ..
@[simp] theorem Flags.serr_setWrap : Flags.serr (Flags.setWrap b f) = Flags.serr f := Flags.serr_pack ..
@[simp] theorem Flags.wrap_setWrap : Flags.wrap (Flags.setWrap b f) = b := Flags.wrap_pack ..
@[simp] theorem Flags.operr_setWrap : Flags.operr (Flags.setWrap b f) = Flags.operr f := Flags.operr_pack ..

@[simp] theorem Flags.neg_setOperr : Flags.neg (Flags.setOperr b f) = Flags.neg f := Flags.neg_pack ..
@[simp] theorem Flags.rng_setOperr : Flags.rng (Flags.setOperr b f) = Flags.rng f := Flags.rng_pack ..
@[simp] theorem Flags.serr_setOperr : Flags.serr (Flags.setOperr b f) = Flags.serr f := Flags.serr_pack ..
@[simp] theorem Flags.wrap_setOperr : Flags.wrap (Flags.setOperr b f) = Flags.wrap f := Flags.wrap_pack ..
@[simp] theorem Flags.operr_setOperr : Flags.operr (Flags.setOperr b f) = b := Flags.operr_pack ..

end setBit

@[simp] theorem Flags.neg_zero : Flags.neg 0#5 = false := by decide
@[simp] theorem Flags.rng_zero : Flags.rng 0#5 = false := by decide
@[simp] theorem Flags.serr_zero : Flags.serr 0#5 = false := by decide
@[simp] theorem Flags.wrap_zero : Flags.wrap 0#5 = false := by decide
@[simp] theorem Flags.operr_zero : Flags.operr 0#5 = false := by decide

end Sys2Proof.Machine
end

