-- ==== Sys2Proof/Laws/State.lean ====
section
/-! SUPPORT. The field lemmas of the named state updates: one lemma per field per update, so that no proof
unfolds a record update. -/

namespace Sys2Proof.Machine

@[simp] theorem beginOp_cfg (s : State) : (beginOp s).cfg = s.cfg := rfl
@[simp] theorem beginOp_run (s : State) : (beginOp s).run = s.run := rfl
@[simp] theorem beginOp_ovf_count (s : State) : (beginOp s).ovf_count = s.ovf_count := rfl
@[simp] theorem beginOp_last (s : State) : (beginOp s).last = s.last := rfl
@[simp] theorem beginOp_acc_ticks (s : State) : (beginOp s).acc_ticks = s.acc_ticks := rfl
@[simp] theorem beginOp_elapsed (s : State) : (beginOp s).elapsed = s.elapsed := rfl
@[simp] theorem beginOp_lap (s : State) : (beginOp s).lap = s.lap := rfl
@[simp] theorem beginOp_seg (s : State) : (beginOp s).seg = s.seg := rfl
@[simp] theorem beginOp_flags (s : State) : (beginOp s).flags = s.flags := rfl
@[simp] theorem beginOp_fmt_mm (s : State) : (beginOp s).fmt_mm = s.fmt_mm := rfl
@[simp] theorem beginOp_fmt_ss (s : State) : (beginOp s).fmt_ss = s.fmt_ss := rfl
@[simp] theorem beginOp_fmt_hh (s : State) : (beginOp s).fmt_hh = s.fmt_hh := rfl
@[simp] theorem beginOp_fmt_mmsshh (s : State) : (beginOp s).fmt_mmsshh = s.fmt_mmsshh := rfl
@[simp] theorem beginOp_disp (s : State) : (beginOp s).disp = s.disp := rfl
@[simp] theorem beginOp_tcmd (s : State) : (beginOp s).tcmd = [] := rfl
@[simp] theorem beginOp_issues (s : State) : (beginOp s).issues = s.issues := rfl

@[simp] theorem emit_cfg (c : TimerCmd) (s : State) : (emit c s).cfg = s.cfg := rfl
@[simp] theorem emit_run (c : TimerCmd) (s : State) : (emit c s).run = s.run := rfl
@[simp] theorem emit_ovf_count (c : TimerCmd) (s : State) : (emit c s).ovf_count = s.ovf_count := rfl
@[simp] theorem emit_last (c : TimerCmd) (s : State) : (emit c s).last = s.last := rfl
@[simp] theorem emit_acc_ticks (c : TimerCmd) (s : State) : (emit c s).acc_ticks = s.acc_ticks := rfl
@[simp] theorem emit_elapsed (c : TimerCmd) (s : State) : (emit c s).elapsed = s.elapsed := rfl
@[simp] theorem emit_lap (c : TimerCmd) (s : State) : (emit c s).lap = s.lap := rfl
@[simp] theorem emit_seg (c : TimerCmd) (s : State) : (emit c s).seg = s.seg := rfl
@[simp] theorem emit_flags (c : TimerCmd) (s : State) : (emit c s).flags = s.flags := rfl
@[simp] theorem emit_fmt_mm (c : TimerCmd) (s : State) : (emit c s).fmt_mm = s.fmt_mm := rfl
@[simp] theorem emit_fmt_ss (c : TimerCmd) (s : State) : (emit c s).fmt_ss = s.fmt_ss := rfl
@[simp] theorem emit_fmt_hh (c : TimerCmd) (s : State) : (emit c s).fmt_hh = s.fmt_hh := rfl
@[simp] theorem emit_fmt_mmsshh (c : TimerCmd) (s : State) : (emit c s).fmt_mmsshh = s.fmt_mmsshh := rfl
@[simp] theorem emit_disp (c : TimerCmd) (s : State) : (emit c s).disp = s.disp := rfl
@[simp] theorem emit_tcmd (c : TimerCmd) (s : State) : (emit c s).tcmd = s.tcmd ++ [c] := rfl
@[simp] theorem emit_issues (c : TimerCmd) (s : State) : (emit c s).issues = s.issues := rfl

@[simp] theorem writeOperr_cfg (b : Bool) (s : State) : (writeOperr b s).cfg = s.cfg := rfl
@[simp] theorem writeOperr_run (b : Bool) (s : State) : (writeOperr b s).run = s.run := rfl
@[simp] theorem writeOperr_ovf_count (b : Bool) (s : State) : (writeOperr b s).ovf_count = s.ovf_count := rfl
@[simp] theorem writeOperr_last (b : Bool) (s : State) : (writeOperr b s).last = s.last := rfl
@[simp] theorem writeOperr_acc_ticks (b : Bool) (s : State) : (writeOperr b s).acc_ticks = s.acc_ticks := rfl
@[simp] theorem writeOperr_elapsed (b : Bool) (s : State) : (writeOperr b s).elapsed = s.elapsed := rfl
@[simp] theorem writeOperr_lap (b : Bool) (s : State) : (writeOperr b s).lap = s.lap := rfl
@[simp] theorem writeOperr_seg (b : Bool) (s : State) : (writeOperr b s).seg = s.seg := rfl
@[simp] theorem writeOperr_flags (b : Bool) (s : State) : (writeOperr b s).flags = Flags.setOperr b s.flags := rfl
@[simp] theorem writeOperr_fmt_mm (b : Bool) (s : State) : (writeOperr b s).fmt_mm = s.fmt_mm := rfl
@[simp] theorem writeOperr_fmt_ss (b : Bool) (s : State) : (writeOperr b s).fmt_ss = s.fmt_ss := rfl
@[simp] theorem writeOperr_fmt_hh (b : Bool) (s : State) : (writeOperr b s).fmt_hh = s.fmt_hh := rfl
@[simp] theorem writeOperr_fmt_mmsshh (b : Bool) (s : State) : (writeOperr b s).fmt_mmsshh = s.fmt_mmsshh := rfl
@[simp] theorem writeOperr_disp (b : Bool) (s : State) : (writeOperr b s).disp = s.disp := rfl
@[simp] theorem writeOperr_tcmd (b : Bool) (s : State) : (writeOperr b s).tcmd = s.tcmd := rfl
@[simp] theorem writeOperr_issues (b : Bool) (s : State) : (writeOperr b s).issues = s.issues := rfl

@[simp] theorem writeWrap_cfg (b : Bool) (s : State) : (writeWrap b s).cfg = s.cfg := rfl
@[simp] theorem writeWrap_run (b : Bool) (s : State) : (writeWrap b s).run = s.run := rfl
@[simp] theorem writeWrap_ovf_count (b : Bool) (s : State) : (writeWrap b s).ovf_count = s.ovf_count := rfl
@[simp] theorem writeWrap_last (b : Bool) (s : State) : (writeWrap b s).last = s.last := rfl
@[simp] theorem writeWrap_acc_ticks (b : Bool) (s : State) : (writeWrap b s).acc_ticks = s.acc_ticks := rfl
@[simp] theorem writeWrap_elapsed (b : Bool) (s : State) : (writeWrap b s).elapsed = s.elapsed := rfl
@[simp] theorem writeWrap_lap (b : Bool) (s : State) : (writeWrap b s).lap = s.lap := rfl
@[simp] theorem writeWrap_seg (b : Bool) (s : State) : (writeWrap b s).seg = s.seg := rfl
@[simp] theorem writeWrap_flags (b : Bool) (s : State) : (writeWrap b s).flags = Flags.setWrap b s.flags := rfl
@[simp] theorem writeWrap_fmt_mm (b : Bool) (s : State) : (writeWrap b s).fmt_mm = s.fmt_mm := rfl
@[simp] theorem writeWrap_fmt_ss (b : Bool) (s : State) : (writeWrap b s).fmt_ss = s.fmt_ss := rfl
@[simp] theorem writeWrap_fmt_hh (b : Bool) (s : State) : (writeWrap b s).fmt_hh = s.fmt_hh := rfl
@[simp] theorem writeWrap_fmt_mmsshh (b : Bool) (s : State) : (writeWrap b s).fmt_mmsshh = s.fmt_mmsshh := rfl
@[simp] theorem writeWrap_disp (b : Bool) (s : State) : (writeWrap b s).disp = s.disp := rfl
@[simp] theorem writeWrap_tcmd (b : Bool) (s : State) : (writeWrap b s).tcmd = s.tcmd := rfl
@[simp] theorem writeWrap_issues (b : Bool) (s : State) : (writeWrap b s).issues = s.issues := rfl

@[simp] theorem pushIssue_cfg (p : Ports) (s : State) : (pushIssue p s).cfg = s.cfg := rfl
@[simp] theorem pushIssue_run (p : Ports) (s : State) : (pushIssue p s).run = s.run := rfl
@[simp] theorem pushIssue_ovf_count (p : Ports) (s : State) : (pushIssue p s).ovf_count = s.ovf_count := rfl
@[simp] theorem pushIssue_last (p : Ports) (s : State) : (pushIssue p s).last = s.last := rfl
@[simp] theorem pushIssue_acc_ticks (p : Ports) (s : State) : (pushIssue p s).acc_ticks = s.acc_ticks := rfl
@[simp] theorem pushIssue_elapsed (p : Ports) (s : State) : (pushIssue p s).elapsed = s.elapsed := rfl
@[simp] theorem pushIssue_lap (p : Ports) (s : State) : (pushIssue p s).lap = s.lap := rfl
@[simp] theorem pushIssue_seg (p : Ports) (s : State) : (pushIssue p s).seg = s.seg := rfl
@[simp] theorem pushIssue_flags (p : Ports) (s : State) : (pushIssue p s).flags = s.flags := rfl
@[simp] theorem pushIssue_fmt_mm (p : Ports) (s : State) : (pushIssue p s).fmt_mm = s.fmt_mm := rfl
@[simp] theorem pushIssue_fmt_ss (p : Ports) (s : State) : (pushIssue p s).fmt_ss = s.fmt_ss := rfl
@[simp] theorem pushIssue_fmt_hh (p : Ports) (s : State) : (pushIssue p s).fmt_hh = s.fmt_hh := rfl
@[simp] theorem pushIssue_fmt_mmsshh (p : Ports) (s : State) : (pushIssue p s).fmt_mmsshh = s.fmt_mmsshh := rfl
@[simp] theorem pushIssue_disp (p : Ports) (s : State) : (pushIssue p s).disp = s.disp := rfl
@[simp] theorem pushIssue_tcmd (p : Ports) (s : State) : (pushIssue p s).tcmd = s.tcmd := rfl
@[simp] theorem pushIssue_issues (p : Ports) (s : State) : (pushIssue p s).issues = p :: s.issues := rfl

@[simp] theorem accumulate_cfg (w : Bool) (cv : U32) (s : State) : (accumulate w cv s).cfg = s.cfg := rfl
@[simp] theorem accumulate_run (w : Bool) (cv : U32) (s : State) : (accumulate w cv s).run = s.run := rfl
@[simp] theorem accumulate_ovf_count (w : Bool) (cv : U32) (s : State) : (accumulate w cv s).ovf_count = countWrap w s.ovf_count := rfl
@[simp] theorem accumulate_last (w : Bool) (cv : U32) (s : State) : (accumulate w cv s).last = cv := rfl
@[simp] theorem accumulate_acc_ticks (w : Bool) (cv : U32) (s : State) : (accumulate w cv s).acc_ticks = s64 (s.acc_ticks.toInt + ((cv.toNat : Int) - (baseline w s.last : Int))) := rfl
@[simp] theorem accumulate_elapsed (w : Bool) (cv : U32) (s : State) : (accumulate w cv s).elapsed = elapsedHundredths s.cfg.toConfig cv (countWrap w s.ovf_count) := rfl
@[simp] theorem accumulate_lap (w : Bool) (cv : U32) (s : State) : (accumulate w cv s).lap = s.lap := rfl
@[simp] theorem accumulate_seg (w : Bool) (cv : U32) (s : State) : (accumulate w cv s).seg = s.seg := rfl
@[simp] theorem accumulate_flags (w : Bool) (cv : U32) (s : State) : (accumulate w cv s).flags = Flags.setWrap w s.flags := rfl
@[simp] theorem accumulate_fmt_mm (w : Bool) (cv : U32) (s : State) : (accumulate w cv s).fmt_mm = s.fmt_mm := rfl
@[simp] theorem accumulate_fmt_ss (w : Bool) (cv : U32) (s : State) : (accumulate w cv s).fmt_ss = s.fmt_ss := rfl
@[simp] theorem accumulate_fmt_hh (w : Bool) (cv : U32) (s : State) : (accumulate w cv s).fmt_hh = s.fmt_hh := rfl
@[simp] theorem accumulate_fmt_mmsshh (w : Bool) (cv : U32) (s : State) : (accumulate w cv s).fmt_mmsshh = s.fmt_mmsshh := rfl
@[simp] theorem accumulate_disp (w : Bool) (cv : U32) (s : State) : (accumulate w cv s).disp = s.disp := rfl
@[simp] theorem accumulate_tcmd (w : Bool) (cv : U32) (s : State) : (accumulate w cv s).tcmd = s.tcmd := rfl
@[simp] theorem accumulate_issues (w : Bool) (cv : U32) (s : State) : (accumulate w cv s).issues = s.issues := rfl

@[simp] theorem writeFormat_cfg (x : Formatted) (s : State) : (writeFormat x s).cfg = s.cfg := rfl
@[simp] theorem writeFormat_run (x : Formatted) (s : State) : (writeFormat x s).run = s.run := rfl
@[simp] theorem writeFormat_ovf_count (x : Formatted) (s : State) : (writeFormat x s).ovf_count = s.ovf_count := rfl
@[simp] theorem writeFormat_last (x : Formatted) (s : State) : (writeFormat x s).last = s.last := rfl
@[simp] theorem writeFormat_acc_ticks (x : Formatted) (s : State) : (writeFormat x s).acc_ticks = s.acc_ticks := rfl
@[simp] theorem writeFormat_elapsed (x : Formatted) (s : State) : (writeFormat x s).elapsed = s.elapsed := rfl
@[simp] theorem writeFormat_lap (x : Formatted) (s : State) : (writeFormat x s).lap = s.lap := rfl
@[simp] theorem writeFormat_seg (x : Formatted) (s : State) : (writeFormat x s).seg = s.seg := rfl
@[simp] theorem writeFormat_flags (x : Formatted) (s : State) : (writeFormat x s).flags = s.flags := rfl
@[simp] theorem writeFormat_fmt_mm (x : Formatted) (s : State) : (writeFormat x s).fmt_mm = BitVec.ofNat 7 x.mm := rfl
@[simp] theorem writeFormat_fmt_ss (x : Formatted) (s : State) : (writeFormat x s).fmt_ss = BitVec.ofNat 6 x.ss := rfl
@[simp] theorem writeFormat_fmt_hh (x : Formatted) (s : State) : (writeFormat x s).fmt_hh = BitVec.ofNat 7 x.hh := rfl
@[simp] theorem writeFormat_fmt_mmsshh (x : Formatted) (s : State) : (writeFormat x s).fmt_mmsshh = BitVec.ofNat 20 x.mmsshh := rfl
@[simp] theorem writeFormat_disp (x : Formatted) (s : State) : (writeFormat x s).disp = s.disp := rfl
@[simp] theorem writeFormat_tcmd (x : Formatted) (s : State) : (writeFormat x s).tcmd = s.tcmd := rfl
@[simp] theorem writeFormat_issues (x : Formatted) (s : State) : (writeFormat x s).issues = s.issues := rfl

@[simp] theorem writeRendering_cfg (r : Rendering) (s : State) : (writeRendering r s).cfg = s.cfg := rfl
@[simp] theorem writeRendering_run (r : Rendering) (s : State) : (writeRendering r s).run = s.run := rfl
@[simp] theorem writeRendering_ovf_count (r : Rendering) (s : State) : (writeRendering r s).ovf_count = s.ovf_count := rfl
@[simp] theorem writeRendering_last (r : Rendering) (s : State) : (writeRendering r s).last = s.last := rfl
@[simp] theorem writeRendering_acc_ticks (r : Rendering) (s : State) : (writeRendering r s).acc_ticks = s.acc_ticks := rfl
@[simp] theorem writeRendering_elapsed (r : Rendering) (s : State) : (writeRendering r s).elapsed = s.elapsed := rfl
@[simp] theorem writeRendering_lap (r : Rendering) (s : State) : (writeRendering r s).lap = s.lap := rfl
@[simp] theorem writeRendering_seg (r : Rendering) (s : State) : (writeRendering r s).seg = r.seg := rfl
@[simp] theorem writeRendering_flags (r : Rendering) (s : State) : (writeRendering r s).flags = Flags.setEnc r.neg r.rng r.serr s.flags := rfl
@[simp] theorem writeRendering_fmt_mm (r : Rendering) (s : State) : (writeRendering r s).fmt_mm = s.fmt_mm := rfl
@[simp] theorem writeRendering_fmt_ss (r : Rendering) (s : State) : (writeRendering r s).fmt_ss = s.fmt_ss := rfl
@[simp] theorem writeRendering_fmt_hh (r : Rendering) (s : State) : (writeRendering r s).fmt_hh = s.fmt_hh := rfl
@[simp] theorem writeRendering_fmt_mmsshh (r : Rendering) (s : State) : (writeRendering r s).fmt_mmsshh = s.fmt_mmsshh := rfl
@[simp] theorem writeRendering_disp (r : Rendering) (s : State) : (writeRendering r s).disp = s.disp := rfl
@[simp] theorem writeRendering_tcmd (r : Rendering) (s : State) : (writeRendering r s).tcmd = s.tcmd := rfl
@[simp] theorem writeRendering_issues (r : Rendering) (s : State) : (writeRendering r s).issues = s.issues := rfl

@[simp] theorem writeDisp_cfg (d : Int) (s : State) : (writeDisp d s).cfg = s.cfg := rfl
@[simp] theorem writeDisp_run (d : Int) (s : State) : (writeDisp d s).run = s.run := rfl
@[simp] theorem writeDisp_ovf_count (d : Int) (s : State) : (writeDisp d s).ovf_count = s.ovf_count := rfl
@[simp] theorem writeDisp_last (d : Int) (s : State) : (writeDisp d s).last = s.last := rfl
@[simp] theorem writeDisp_acc_ticks (d : Int) (s : State) : (writeDisp d s).acc_ticks = s.acc_ticks := rfl
@[simp] theorem writeDisp_elapsed (d : Int) (s : State) : (writeDisp d s).elapsed = s.elapsed := rfl
@[simp] theorem writeDisp_lap (d : Int) (s : State) : (writeDisp d s).lap = s.lap := rfl
@[simp] theorem writeDisp_seg (d : Int) (s : State) : (writeDisp d s).seg = s.seg := rfl
@[simp] theorem writeDisp_flags (d : Int) (s : State) : (writeDisp d s).flags = s.flags := rfl
@[simp] theorem writeDisp_fmt_mm (d : Int) (s : State) : (writeDisp d s).fmt_mm = s.fmt_mm := rfl
@[simp] theorem writeDisp_fmt_ss (d : Int) (s : State) : (writeDisp d s).fmt_ss = s.fmt_ss := rfl
@[simp] theorem writeDisp_fmt_hh (d : Int) (s : State) : (writeDisp d s).fmt_hh = s.fmt_hh := rfl
@[simp] theorem writeDisp_fmt_mmsshh (d : Int) (s : State) : (writeDisp d s).fmt_mmsshh = s.fmt_mmsshh := rfl
@[simp] theorem writeDisp_disp (d : Int) (s : State) : (writeDisp d s).disp = dispWord d := rfl
@[simp] theorem writeDisp_tcmd (d : Int) (s : State) : (writeDisp d s).tcmd = s.tcmd := rfl
@[simp] theorem writeDisp_issues (d : Int) (s : State) : (writeDisp d s).issues = s.issues := rfl

@[simp] theorem doStart_cfg (s : State) : (doStart s).cfg = s.cfg := rfl
@[simp] theorem doStart_run (s : State) : (doStart s).run = .running := rfl
@[simp] theorem doStart_ovf_count (s : State) : (doStart s).ovf_count = s.ovf_count := rfl
@[simp] theorem doStart_last (s : State) : (doStart s).last = s.cfg.load := rfl
@[simp] theorem doStart_acc_ticks (s : State) : (doStart s).acc_ticks = s.acc_ticks := rfl
@[simp] theorem doStart_elapsed (s : State) : (doStart s).elapsed = s.elapsed := rfl
@[simp] theorem doStart_lap (s : State) : (doStart s).lap = s.lap := rfl
@[simp] theorem doStart_seg (s : State) : (doStart s).seg = s.seg := rfl
@[simp] theorem doStart_flags (s : State) : (doStart s).flags = s.flags := rfl
@[simp] theorem doStart_fmt_mm (s : State) : (doStart s).fmt_mm = s.fmt_mm := rfl
@[simp] theorem doStart_fmt_ss (s : State) : (doStart s).fmt_ss = s.fmt_ss := rfl
@[simp] theorem doStart_fmt_hh (s : State) : (doStart s).fmt_hh = s.fmt_hh := rfl
@[simp] theorem doStart_fmt_mmsshh (s : State) : (doStart s).fmt_mmsshh = s.fmt_mmsshh := rfl
@[simp] theorem doStart_disp (s : State) : (doStart s).disp = s.disp := rfl
@[simp] theorem doStart_tcmd (s : State) : (doStart s).tcmd = s.tcmd ++ [.load s.cfg.load] ++ [.ctrl true true s.cfg.prescaler] := rfl
@[simp] theorem doStart_issues (s : State) : (doStart s).issues = s.issues := rfl

@[simp] theorem doStop_cfg (s : State) : (doStop s).cfg = s.cfg := rfl
@[simp] theorem doStop_run (s : State) : (doStop s).run = .stopped := rfl
@[simp] theorem doStop_ovf_count (s : State) : (doStop s).ovf_count = s.ovf_count := rfl
@[simp] theorem doStop_last (s : State) : (doStop s).last = s.last := rfl
@[simp] theorem doStop_acc_ticks (s : State) : (doStop s).acc_ticks = s.acc_ticks := rfl
@[simp] theorem doStop_elapsed (s : State) : (doStop s).elapsed = s.elapsed := rfl
@[simp] theorem doStop_lap (s : State) : (doStop s).lap = s.lap := rfl
@[simp] theorem doStop_seg (s : State) : (doStop s).seg = s.seg := rfl
@[simp] theorem doStop_flags (s : State) : (doStop s).flags = s.flags := rfl
@[simp] theorem doStop_fmt_mm (s : State) : (doStop s).fmt_mm = s.fmt_mm := rfl
@[simp] theorem doStop_fmt_ss (s : State) : (doStop s).fmt_ss = s.fmt_ss := rfl
@[simp] theorem doStop_fmt_hh (s : State) : (doStop s).fmt_hh = s.fmt_hh := rfl
@[simp] theorem doStop_fmt_mmsshh (s : State) : (doStop s).fmt_mmsshh = s.fmt_mmsshh := rfl
@[simp] theorem doStop_disp (s : State) : (doStop s).disp = s.disp := rfl
@[simp] theorem doStop_tcmd (s : State) : (doStop s).tcmd = s.tcmd ++ [.ctrl false true s.cfg.prescaler] := rfl
@[simp] theorem doStop_issues (s : State) : (doStop s).issues = s.issues := rfl

@[simp] theorem doLap_cfg (s : State) : (doLap s).cfg = s.cfg := rfl
@[simp] theorem doLap_run (s : State) : (doLap s).run = s.run := rfl
@[simp] theorem doLap_ovf_count (s : State) : (doLap s).ovf_count = s.ovf_count := rfl
@[simp] theorem doLap_last (s : State) : (doLap s).last = s.last := rfl
@[simp] theorem doLap_acc_ticks (s : State) : (doLap s).acc_ticks = s.acc_ticks := rfl
@[simp] theorem doLap_elapsed (s : State) : (doLap s).elapsed = s.elapsed := rfl
@[simp] theorem doLap_lap (s : State) : (doLap s).lap = s.elapsed := rfl
@[simp] theorem doLap_seg (s : State) : (doLap s).seg = s.seg := rfl
@[simp] theorem doLap_flags (s : State) : (doLap s).flags = s.flags := rfl
@[simp] theorem doLap_fmt_mm (s : State) : (doLap s).fmt_mm = s.fmt_mm := rfl
@[simp] theorem doLap_fmt_ss (s : State) : (doLap s).fmt_ss = s.fmt_ss := rfl
@[simp] theorem doLap_fmt_hh (s : State) : (doLap s).fmt_hh = s.fmt_hh := rfl
@[simp] theorem doLap_fmt_mmsshh (s : State) : (doLap s).fmt_mmsshh = s.fmt_mmsshh := rfl
@[simp] theorem doLap_disp (s : State) : (doLap s).disp = s.disp := rfl
@[simp] theorem doLap_tcmd (s : State) : (doLap s).tcmd = s.tcmd := rfl
@[simp] theorem doLap_issues (s : State) : (doLap s).issues = s.issues := rfl

@[simp] theorem applyReset_cfg (s : State) : (applyReset s).cfg = s.cfg := rfl
@[simp] theorem applyReset_run (s : State) : (applyReset s).run = .stopped := rfl
@[simp] theorem applyReset_ovf_count (s : State) : (applyReset s).ovf_count = 0 := rfl
@[simp] theorem applyReset_last (s : State) : (applyReset s).last = s.cfg.load := rfl
@[simp] theorem applyReset_acc_ticks (s : State) : (applyReset s).acc_ticks = 0 := rfl
@[simp] theorem applyReset_elapsed (s : State) : (applyReset s).elapsed = 0 := rfl
@[simp] theorem applyReset_lap (s : State) : (applyReset s).lap = 0 := rfl
@[simp] theorem applyReset_seg (s : State) : (applyReset s).seg = Vector.replicate 6 blankPattern := rfl
@[simp] theorem applyReset_flags (s : State) : (applyReset s).flags = 0 := rfl
@[simp] theorem applyReset_fmt_mm (s : State) : (applyReset s).fmt_mm = 0 := rfl
@[simp] theorem applyReset_fmt_ss (s : State) : (applyReset s).fmt_ss = 0 := rfl
@[simp] theorem applyReset_fmt_hh (s : State) : (applyReset s).fmt_hh = 0 := rfl
@[simp] theorem applyReset_fmt_mmsshh (s : State) : (applyReset s).fmt_mmsshh = 0 := rfl
@[simp] theorem applyReset_disp (s : State) : (applyReset s).disp = 0 := rfl
@[simp] theorem applyReset_tcmd (s : State) : (applyReset s).tcmd = [] := rfl
@[simp] theorem applyReset_issues (s : State) : (applyReset s).issues = s.issues := rfl

end Sys2Proof.Machine
end

