-- ==== Sys2Proof/Laws/Ops.lean ====
section
/-! SUPPORT. What each shared operation of the accumulator, the encoder and the controller does, said once: provers cite
these lemmas instead of unfolding the operation. -/

namespace Sys2Proof.Machine

section accumulator

/-- The wrap detection of a sample taken in state `s` (R143). -/
def wrapOf (cv : U32) (irq : Bool) (s : State) : WrapDecision := detectWrap s.cfg.wrapDetect s.last cv irq

theorem detectWrap_irq (last cv : U32) (irq : Bool) : detectWrap .irq last cv irq = { wrap := irq, clear := irq } := rfl

theorem detectWrap_compare (last cv : U32) (irq : Bool) :
    detectWrap .compare last cv irq = { wrap := decide (last.toNat < cv.toNat), clear := false } := rfl

theorem detectWrap_combined (last cv : U32) (irq : Bool) :
    detectWrap .combined last cv irq = { wrap := irq || decide (last.toNat < cv.toNat), clear := irq } := by
  cases irq <;> rfl

/-- An interrupt is cleared exactly when it was read as pending: never under COMPARE (R323). -/
theorem detectWrap_clear (mode : WrapDetect) (last cv : U32) (irq : Bool) :
    (detectWrap mode last cv irq).clear = (irq && decide (mode ≠ .compare)) := by
  cases mode <;> cases irq <;> rfl

/-- A sample that clears the interrupt counts the wrap. -/
theorem detectWrap_wrap_of_clear (mode : WrapDetect) (last cv : U32) (irq : Bool)
    (h : (detectWrap mode last cv irq).clear = true) : (detectWrap mode last cv irq).wrap = true := by
  cases mode <;> cases irq <;> first | rfl | exact absurd h Bool.false_ne_true

/-- The commands a sample sends (R146): CLRIRQ where the interrupt branch fired. -/
def clearCmds : Bool → List TimerCmd
  | true => [.clrirq]
  | false => []

@[simp] theorem mem_clearCmds (b : Bool) : TimerCmd.clrirq ∈ clearCmds b ↔ b = true := by
  cases b <;> simp [clearCmds]

@[simp] theorem clearCmds_false : clearCmds false = [] := rfl

@[simp] theorem clearCmds_true : clearCmds true = [.clrirq] := rfl

variable (cv : U32) (irq : Bool) (s : State)

@[simp] theorem sampleBody_cfg : (sampleBody cv irq s).cfg = s.cfg := by
  unfold sampleBody; dsimp only; split <;> rfl
@[simp] theorem sampleBody_run : (sampleBody cv irq s).run = s.run := by
  unfold sampleBody; dsimp only; split <;> rfl
@[simp] theorem sampleBody_ovf_count :
    (sampleBody cv irq s).ovf_count = countWrap (wrapOf cv irq s).wrap s.ovf_count := by
  unfold sampleBody; dsimp only; split <;> simp [wrapOf, *]
@[simp] theorem sampleBody_last : (sampleBody cv irq s).last = cv := by
  unfold sampleBody; dsimp only; split <;> rfl
@[simp] theorem sampleBody_acc_ticks :
    (sampleBody cv irq s).acc_ticks =
      s64 (s.acc_ticks.toInt + ((cv.toNat : Int) - (baseline (wrapOf cv irq s).wrap s.last : Int))) := by
  unfold sampleBody; dsimp only; split <;> simp [wrapOf, *]
@[simp] theorem sampleBody_elapsed :
    (sampleBody cv irq s).elapsed =
      elapsedHundredths s.cfg.toConfig cv (countWrap (wrapOf cv irq s).wrap s.ovf_count) := by
  unfold sampleBody; dsimp only; split <;> simp [wrapOf, *]
@[simp] theorem sampleBody_lap : (sampleBody cv irq s).lap = s.lap := by
  unfold sampleBody; dsimp only; split <;> rfl
@[simp] theorem sampleBody_seg : (sampleBody cv irq s).seg = s.seg := by
  unfold sampleBody; dsimp only; split <;> rfl
@[simp] theorem sampleBody_flags :
    (sampleBody cv irq s).flags = Flags.setWrap (wrapOf cv irq s).wrap s.flags := by
  unfold sampleBody; dsimp only; split <;> simp [wrapOf, *]
@[simp] theorem sampleBody_fmt_mm : (sampleBody cv irq s).fmt_mm = s.fmt_mm := by
  unfold sampleBody; dsimp only; split <;> rfl
@[simp] theorem sampleBody_fmt_ss : (sampleBody cv irq s).fmt_ss = s.fmt_ss := by
  unfold sampleBody; dsimp only; split <;> rfl
@[simp] theorem sampleBody_fmt_hh : (sampleBody cv irq s).fmt_hh = s.fmt_hh := by
  unfold sampleBody; dsimp only; split <;> rfl
@[simp] theorem sampleBody_fmt_mmsshh : (sampleBody cv irq s).fmt_mmsshh = s.fmt_mmsshh := by
  unfold sampleBody; dsimp only; split <;> rfl
@[simp] theorem sampleBody_disp : (sampleBody cv irq s).disp = s.disp := by
  unfold sampleBody; dsimp only; split <;> rfl
@[simp] theorem sampleBody_tcmd :
    (sampleBody cv irq s).tcmd = s.tcmd ++ clearCmds (wrapOf cv irq s).clear := by
  unfold sampleBody; dsimp only; split <;> simp [wrapOf, clearCmds, *]
@[simp] theorem sampleBody_issues : (sampleBody cv irq s).issues = s.issues := by
  unfold sampleBody; dsimp only; split <;> rfl

/-- Wrap detection does not look at the command list. -/
@[simp] theorem wrapOf_beginOp : wrapOf cv irq (beginOp s) = wrapOf cv irq s := rfl

/-- Everything a sample body does to the state it is run in (R147). -/
theorem sampleBody_eq : sampleBody cv irq s =
    { s with
      ovf_count := (sampleBody cv irq s).ovf_count, acc_ticks := (sampleBody cv irq s).acc_ticks, last := cv,
      elapsed := (sampleBody cv irq s).elapsed, flags := (sampleBody cv irq s).flags,
      tcmd := (sampleBody cv irq s).tcmd } := by
  unfold sampleBody; dsimp only; split <;> rfl

end accumulator

section encoder
variable (v : Int) (s : State)

@[simp] theorem encBody_cfg : (encBody v s).cfg = s.cfg := rfl
@[simp] theorem encBody_run : (encBody v s).run = s.run := rfl
@[simp] theorem encBody_ovf_count : (encBody v s).ovf_count = s.ovf_count := rfl
@[simp] theorem encBody_last : (encBody v s).last = s.last := rfl
@[simp] theorem encBody_acc_ticks : (encBody v s).acc_ticks = s.acc_ticks := rfl
@[simp] theorem encBody_elapsed : (encBody v s).elapsed = s.elapsed := rfl
@[simp] theorem encBody_lap : (encBody v s).lap = s.lap := rfl
@[simp] theorem encBody_seg : (encBody v s).seg = (render s.cfg.toConfig v).seg := rfl
@[simp] theorem encBody_flags :
    (encBody v s).flags =
      Flags.setEnc (render s.cfg.toConfig v).neg (render s.cfg.toConfig v).rng (render s.cfg.toConfig v).serr s.flags := rfl
@[simp] theorem encBody_fmt_mm : (encBody v s).fmt_mm = s.fmt_mm := rfl
@[simp] theorem encBody_fmt_ss : (encBody v s).fmt_ss = s.fmt_ss := rfl
@[simp] theorem encBody_fmt_hh : (encBody v s).fmt_hh = s.fmt_hh := rfl
@[simp] theorem encBody_fmt_mmsshh : (encBody v s).fmt_mmsshh = s.fmt_mmsshh := rfl
@[simp] theorem encBody_disp : (encBody v s).disp = s.disp := rfl
@[simp] theorem encBody_tcmd : (encBody v s).tcmd = s.tcmd := rfl
@[simp] theorem encBody_issues : (encBody v s).issues = s.issues := rfl

end encoder

section phases

variable (cv : U32) (irq : Bool) (s : State)

theorem samplePhase_running (h : s.run = .running) : samplePhase cv irq s = sampleBody cv irq s := by
  simp [samplePhase, h]

theorem samplePhase_stopped (h : s.run = .stopped) : samplePhase cv irq s = writeWrap false s := by
  simp [samplePhase, h]

@[simp] theorem samplePhase_cfg : (samplePhase cv irq s).cfg = s.cfg := by
  unfold samplePhase; split <;> simp
@[simp] theorem samplePhase_run : (samplePhase cv irq s).run = s.run := by
  unfold samplePhase; split <;> simp
@[simp] theorem samplePhase_lap : (samplePhase cv irq s).lap = s.lap := by
  unfold samplePhase; split <;> simp
@[simp] theorem samplePhase_seg : (samplePhase cv irq s).seg = s.seg := by
  unfold samplePhase; split <;> simp
@[simp] theorem samplePhase_fmt_mm : (samplePhase cv irq s).fmt_mm = s.fmt_mm := by
  unfold samplePhase; split <;> simp
@[simp] theorem samplePhase_fmt_ss : (samplePhase cv irq s).fmt_ss = s.fmt_ss := by
  unfold samplePhase; split <;> simp
@[simp] theorem samplePhase_fmt_hh : (samplePhase cv irq s).fmt_hh = s.fmt_hh := by
  unfold samplePhase; split <;> simp
@[simp] theorem samplePhase_fmt_mmsshh : (samplePhase cv irq s).fmt_mmsshh = s.fmt_mmsshh := by
  unfold samplePhase; split <;> simp
@[simp] theorem samplePhase_disp : (samplePhase cv irq s).disp = s.disp := by
  unfold samplePhase; split <;> simp
@[simp] theorem samplePhase_issues : (samplePhase cv irq s).issues = s.issues := by
  unfold samplePhase; split <;> simp

/-- The commands of a Clear (R211): while Running it stops the timer first. -/
def clearEventCmds : RunState → BitVec 8 → List TimerCmd
  | .running, ps => [.ctrl false true ps, .load 0]
  | .stopped, _ => [.load 0]

@[simp] theorem clearEventCmds_running (ps : BitVec 8) :
    clearEventCmds .running ps = [.ctrl false true ps, .load 0] := rfl

@[simp] theorem clearEventCmds_stopped (ps : BitVec 8) : clearEventCmds .stopped ps = [.load 0] := rfl

@[simp] theorem doClear_cfg : (doClear s).cfg = s.cfg := by
  unfold doClear; dsimp only; split <;> rfl
@[simp] theorem doClear_run : (doClear s).run = .stopped := by
  rfl
@[simp] theorem doClear_ovf_count : (doClear s).ovf_count = 0 := by
  unfold doClear; dsimp only; split <;> rfl
@[simp] theorem doClear_last : (doClear s).last = s.cfg.load := by
  unfold doClear; dsimp only; split <;> rfl
@[simp] theorem doClear_acc_ticks : (doClear s).acc_ticks = 0 := by
  unfold doClear; dsimp only; split <;> rfl
@[simp] theorem doClear_elapsed : (doClear s).elapsed = 0 := by
  unfold doClear; dsimp only; split <;> rfl
@[simp] theorem doClear_lap : (doClear s).lap = 0 := by
  unfold doClear; dsimp only; split <;> rfl
@[simp] theorem doClear_seg : (doClear s).seg = s.seg := by
  unfold doClear; dsimp only; split <;> rfl
@[simp] theorem doClear_flags : (doClear s).flags = s.flags := by
  unfold doClear; dsimp only; split <;> rfl
@[simp] theorem doClear_fmt_mm : (doClear s).fmt_mm = s.fmt_mm := by
  unfold doClear; dsimp only; split <;> rfl
@[simp] theorem doClear_fmt_ss : (doClear s).fmt_ss = s.fmt_ss := by
  unfold doClear; dsimp only; split <;> rfl
@[simp] theorem doClear_fmt_hh : (doClear s).fmt_hh = s.fmt_hh := by
  unfold doClear; dsimp only; split <;> rfl
@[simp] theorem doClear_fmt_mmsshh : (doClear s).fmt_mmsshh = s.fmt_mmsshh := by
  unfold doClear; dsimp only; split <;> rfl
@[simp] theorem doClear_disp : (doClear s).disp = s.disp := by
  unfold doClear; dsimp only; split <;> rfl
@[simp] theorem doClear_tcmd : (doClear s).tcmd =
    s.tcmd ++ clearEventCmds s.run s.cfg.prescaler := by
  unfold doClear; dsimp only; split <;> simp [ctrlCmd, Config.autoReload, clearEventCmds, *]
@[simp] theorem doClear_issues : (doClear s).issues = s.issues := by
  unfold doClear; dsimp only; split <;> rfl

/-- Everything an event can do (R206 to R212), said once. -/
theorem eventPhase_cases (e : Event) :
    (e = .start ∧ s.run = .stopped ∧ eventPhase e s = doStart s) ∨
    (e = .stop ∧ s.run = .running ∧ eventPhase e s = doStop s) ∨
    (e = .lap ∧ s.run = .running ∧ eventPhase e s = doLap s) ∨
    (e = .clear ∧ eventPhase e s = doClear s) ∨
    ((e = .none ∨ (e = .start ∧ s.run = .running) ∨ (e = .stop ∧ s.run = .stopped) ∨
      (e = .lap ∧ s.run = .stopped)) ∧ eventPhase e s = s) := by
  cases e <;> cases h : s.run <;> simp [eventPhase, h]

@[simp] theorem eventPhase_cfg (e : Event) : (eventPhase e s).cfg = s.cfg := by
  obtain ⟨-, -, h⟩ | ⟨-, -, h⟩ | ⟨-, -, h⟩ | ⟨-, h⟩ | ⟨-, h⟩ := eventPhase_cases s e <;> simp [h]
@[simp] theorem eventPhase_seg (e : Event) : (eventPhase e s).seg = s.seg := by
  obtain ⟨-, -, h⟩ | ⟨-, -, h⟩ | ⟨-, -, h⟩ | ⟨-, h⟩ | ⟨-, h⟩ := eventPhase_cases s e <;> simp [h]
@[simp] theorem eventPhase_flags (e : Event) : (eventPhase e s).flags = s.flags := by
  obtain ⟨-, -, h⟩ | ⟨-, -, h⟩ | ⟨-, -, h⟩ | ⟨-, h⟩ | ⟨-, h⟩ := eventPhase_cases s e <;> simp [h]
@[simp] theorem eventPhase_fmt_mm (e : Event) : (eventPhase e s).fmt_mm = s.fmt_mm := by
  obtain ⟨-, -, h⟩ | ⟨-, -, h⟩ | ⟨-, -, h⟩ | ⟨-, h⟩ | ⟨-, h⟩ := eventPhase_cases s e <;> simp [h]
@[simp] theorem eventPhase_fmt_ss (e : Event) : (eventPhase e s).fmt_ss = s.fmt_ss := by
  obtain ⟨-, -, h⟩ | ⟨-, -, h⟩ | ⟨-, -, h⟩ | ⟨-, h⟩ | ⟨-, h⟩ := eventPhase_cases s e <;> simp [h]
@[simp] theorem eventPhase_fmt_hh (e : Event) : (eventPhase e s).fmt_hh = s.fmt_hh := by
  obtain ⟨-, -, h⟩ | ⟨-, -, h⟩ | ⟨-, -, h⟩ | ⟨-, h⟩ | ⟨-, h⟩ := eventPhase_cases s e <;> simp [h]
@[simp] theorem eventPhase_fmt_mmsshh (e : Event) : (eventPhase e s).fmt_mmsshh = s.fmt_mmsshh := by
  obtain ⟨-, -, h⟩ | ⟨-, -, h⟩ | ⟨-, -, h⟩ | ⟨-, h⟩ | ⟨-, h⟩ := eventPhase_cases s e <;> simp [h]
@[simp] theorem eventPhase_disp (e : Event) : (eventPhase e s).disp = s.disp := by
  obtain ⟨-, -, h⟩ | ⟨-, -, h⟩ | ⟨-, -, h⟩ | ⟨-, h⟩ | ⟨-, h⟩ := eventPhase_cases s e <;> simp [h]
@[simp] theorem eventPhase_issues (e : Event) : (eventPhase e s).issues = s.issues := by
  obtain ⟨-, -, h⟩ | ⟨-, -, h⟩ | ⟨-, -, h⟩ | ⟨-, h⟩ | ⟨-, h⟩ := eventPhase_cases s e <;> simp [h]

variable (mode : Bool)

@[simp] theorem outputPhase_cfg : (outputPhase mode s).cfg = s.cfg := rfl
@[simp] theorem outputPhase_run : (outputPhase mode s).run = s.run := rfl
@[simp] theorem outputPhase_ovf_count : (outputPhase mode s).ovf_count = s.ovf_count := rfl
@[simp] theorem outputPhase_last : (outputPhase mode s).last = s.last := rfl
@[simp] theorem outputPhase_acc_ticks : (outputPhase mode s).acc_ticks = s.acc_ticks := rfl
@[simp] theorem outputPhase_elapsed : (outputPhase mode s).elapsed = s.elapsed := rfl
@[simp] theorem outputPhase_lap : (outputPhase mode s).lap = s.lap := rfl
@[simp] theorem outputPhase_seg :
    (outputPhase mode s).seg = (render s.cfg.toConfig (displayValue s.cfg.dispFmt (displaySource mode s))).seg := rfl
@[simp] theorem outputPhase_flags :
    (outputPhase mode s).flags =
      Flags.setEnc (render s.cfg.toConfig (displayValue s.cfg.dispFmt (displaySource mode s))).neg
        (render s.cfg.toConfig (displayValue s.cfg.dispFmt (displaySource mode s))).rng
        (render s.cfg.toConfig (displayValue s.cfg.dispFmt (displaySource mode s))).serr s.flags := rfl
@[simp] theorem outputPhase_fmt_mm :
    (outputPhase mode s).fmt_mm = BitVec.ofNat 7 (format (zext (displaySource mode s))).mm := rfl
@[simp] theorem outputPhase_fmt_ss :
    (outputPhase mode s).fmt_ss = BitVec.ofNat 6 (format (zext (displaySource mode s))).ss := rfl
@[simp] theorem outputPhase_fmt_hh :
    (outputPhase mode s).fmt_hh = BitVec.ofNat 7 (format (zext (displaySource mode s))).hh := rfl
@[simp] theorem outputPhase_fmt_mmsshh :
    (outputPhase mode s).fmt_mmsshh = BitVec.ofNat 20 (format (zext (displaySource mode s))).mmsshh := rfl
@[simp] theorem outputPhase_disp :
    (outputPhase mode s).disp = dispWord (displayValue s.cfg.dispFmt (displaySource mode s)) := rfl
@[simp] theorem outputPhase_tcmd : (outputPhase mode s).tcmd = s.tcmd := rfl
@[simp] theorem outputPhase_issues : (outputPhase mode s).issues = s.issues := rfl

end phases

end Sys2Proof.Machine
end

