-- ==== Sys2Proof/Laws/Accumulator.lean ====
section
/-! SUPPORT. The arithmetic of a sample in the widths of its registers: one lemma per function of the accumulator. -/

namespace Sys2Proof.Machine

/-- Counting a wrap is addition modulo 2^32. -/
theorem countWrap_eq_add (w : Bool) (n : U32) : countWrap w n = n + (if w then 1 else 0) := by
  cases w
  · simp [countWrap]
  · apply BitVec.eq_of_toNat_eq
    simp [countWrap, u32]

@[simp] theorem countWrap_false (n : U32) : countWrap false n = n := rfl

/-- A u32 as a 64-bit integer is non-negative. -/
theorem zeroExtend_toInt (u : U32) : (u.zeroExtend 64).toInt = u.toNat := by
  have h : (u.zeroExtend 64).toNat = u.toNat := by
    simp only [BitVec.truncate_eq_setWidth, BitVec.toNat_setWidth]
    have := u.isLt
    omega
  have := u.isLt
  rw [BitVec.toInt_eq_toNat_of_lt (by omega), h]

/-- The `acc_ticks` update (R144) is subtraction and addition modulo 2^64. -/
theorem accTicks_eq (w : Bool) (a : S64) (cv l : U32) :
    s64 (a.toInt + ((cv.toNat : Int) - (baseline w l : Int))) =
      a + cv.zeroExtend 64 - (if w then 0 else l.zeroExtend 64) := by
  apply BitVec.eq_of_toInt_eq
  cases w
  · simp only [s64, baseline, BitVec.toInt_ofInt, BitVec.toInt_sub, BitVec.toInt_add, zeroExtend_toInt,
      Bool.false_eq_true, if_false]
    simp
    congr 1
    omega
  · simp only [s64, baseline, BitVec.toInt_ofInt, BitVec.toInt_sub, BitVec.toInt_add, zeroExtend_toInt, if_true]
    simp

/-- The elapsed computation is the formula (R145). -/
theorem elapsedHundredths_toNat (c : Config) (cv n : U32) :
    (elapsedHundredths c cv n).toNat = elapsedFormula c cv.toNat n.toNat := by
  simp [elapsedHundredths, elapsedFormula, u32, hundredthsPerWrap, ticksPerHundredth]

/-- Where no register wraps around, the formula is exact (R154). -/
theorem elapsedFormula_exact (c : LegalConfig) (cv n : Nat) (hn : (n + 1) * c.load.toNat < 2 ^ 32) :
    elapsedFormula c.toConfig cv n =
      (c.load.toNat - cv) / (c.clockHz / (100 * (c.prescaler.toNat + 1))) +
        n * (c.load.toNat / (c.clockHz / (100 * (c.prescaler.toNat + 1)))) := by
  unfold elapsedFormula
  apply Nat.mod_eq_of_lt
  generalize c.clockHz / (100 * (c.prescaler.toNat + 1)) = T
  have h1 : (c.load.toNat - cv) / T ≤ c.load.toNat := le_trans (Nat.div_le_self _ _) (Nat.sub_le _ _)
  have h2 : n * (c.load.toNat / T) ≤ n * c.load.toNat := Nat.mul_le_mul_left _ (Nat.div_le_self _ _)
  have h3 : (n + 1) * c.load.toNat = n * c.load.toNat + c.load.toNat := by ring
  omega

/-- `T >= 1` is the legality condition of R11. -/
theorem ticksPerHundredth_pos_iff (c : Config) :
    1 ≤ ticksPerHundredth c ↔ 100 * (c.prescaler.toNat + 1) ≤ c.clockHz := by
  unfold ticksPerHundredth
  rw [Nat.le_div_iff_mul_le (by omega), one_mul]

/-- The 32 bits of a DisplayValue read back as it (R215). -/
theorem dispWord_displayValue (f : DispFmt) (src : U32) :
    (dispWord (displayValue f src)).toInt = displayValue f src := by
  cases f
  · have h1 : src.toNat / 6000 % 100 < 100 := Nat.mod_lt _ (by decide)
    have h2 : src.toNat / 100 % 60 < 60 := Nat.mod_lt _ (by decide)
    have h3 : src.toNat % 100 < 100 := Nat.mod_lt _ (by decide)
    simp only [dispWord, displayValue, BitVec.toInt_ofInt, zext, format]
    exact Int.bmod_eq_of_le (by omega) (by omega)
  · simp [dispWord, displayValue, int32]

/-- Two 8-bit or wider fields side by side, as a number. -/
theorem append_toNat {n m : Nat} (a : BitVec n) (b : BitVec m) : (a ++ b).toNat = a.toNat * 2 ^ m + b.toNat := by
  rw [BitVec.toNat_append, ← Nat.shiftLeft_add_eq_or_of_lt b.isLt, Nat.shiftLeft_eq]

end Sys2Proof.Machine
end

