-- ==== Sys2Proof/Laws/Encoder.lean ====
section
/-! SUPPORT. The digits of a natural, the three paths of the encoder, and the formatter: one lemma per function. -/

namespace Sys2Proof.Machine

/-- Counting digits with enough fuel: slot `i` has a digit exactly when `10^i` fits. -/
theorem lt_countDigits_iff (fuel m i : Nat) (hf : m ≤ fuel) : i < countDigits fuel m ↔ 10 ^ i ≤ m := by
  induction fuel generalizing m i with
  | zero =>
    have hm : m = 0 := Nat.le_zero.mp hf
    simp [countDigits, hm]
  | succ fuel ih =>
    unfold countDigits
    by_cases hm : m = 0
    · simp [hm]
    · rw [if_neg hm]
      cases i with
      | zero => simp; omega
      | succ i =>
        rw [Nat.add_lt_add_iff_right, ih (m / 10) i (by omega), Nat.le_div_iff_mul_le (by decide), pow_succ]

/-- `ndigits m` is the least `n` with `m < 10^n` (R22): slot `i` has a digit exactly when `10^i <= m`. -/
theorem lt_ndigits_iff (m i : Nat) : i < ndigits m ↔ 10 ^ i ≤ m := lt_countDigits_iff m m i (le_refl m)

@[simp] theorem ndigits_zero : ndigits 0 = 0 := rfl

theorem ndigits_le_iff (m n : Nat) : ndigits m ≤ n ↔ m < 10 ^ n := by
  rw [← not_lt, lt_ndigits_iff, not_le]

/-- The slot just above the most significant digit. -/
theorem eq_ndigits_iff (m i : Nat) : i = ndigits m ↔ m < 10 ^ i ∧ (i = 0 ∨ 10 ^ (i - 1) ≤ m) := by
  rw [← ndigits_le_iff]
  cases i with
  | zero => simp [eq_comm]
  | succ i =>
    have h := lt_ndigits_iff m i
    simp only [Nat.add_sub_cancel, ← h]
    omega

/-- Six digits, for a magnitude in range. -/
theorem ndigits_eq_six_iff (m : Nat) (h : m ≤ 999999) : ndigits m = 6 ↔ 100000 ≤ m := by
  have h5 := lt_ndigits_iff m 5
  have h6 := ndigits_le_iff m 6
  norm_num at h5 h6
  omega

section render
variable (c : Config) (v : Int)

@[simp] theorem render_neg : (render c v).neg = decide (v < 0) := by
  unfold render; dsimp only; split
  · rfl
  · split <;> rfl

/-- Step 1 (R264). -/
theorem render_outOfRange (h : 999999 < v.natAbs) :
    render c v = { seg := Vector.replicate 6 blankPattern, neg := decide (v < 0), rng := true, serr := false } := by
  simp [render, h]

/-- Step 4 (R267). -/
theorem render_signOverflow (h : v < 0) (h1 : 100000 ≤ v.natAbs) (h2 : v.natAbs ≤ 999999) :
    render c v = { seg := c.seg.err, neg := true, rng := false, serr := true } := by
  have hn : ndigits v.natAbs = 6 := (ndigits_eq_six_iff _ h2).2 h1
  simp [render, hn, h, Nat.not_lt.2 h2]

/-- Steps 3, 5 and 6 (R266, R268, R269). -/
theorem render_numeral (h : -99999 ≤ v) (h2 : v ≤ 999999) :
    render c v = { seg := numeral c v, neg := decide (v < 0), rng := false, serr := false } := by
  have h3 : ¬ 999999 < v.natAbs := by omega
  have hn : ¬ (v < 0 ∧ ndigits v.natAbs = 6) := by
    rintro ⟨hv, hn⟩
    have := (ndigits_eq_six_iff v.natAbs (by omega)).1 hn
    omega
  simp [render, h3, hn]

/-- The three paths of the encoder, said once: which one runs, and what it gives. -/
theorem render_cases :
    (999999 < v.natAbs ∧
      render c v = { seg := Vector.replicate 6 blankPattern, neg := decide (v < 0), rng := true, serr := false }) ∨
    (v < 0 ∧ 100000 ≤ v.natAbs ∧ v.natAbs ≤ 999999 ∧
      render c v = { seg := c.seg.err, neg := true, rng := false, serr := true }) ∨
    (-99999 ≤ v ∧ v ≤ 999999 ∧
      render c v = { seg := numeral c v, neg := decide (v < 0), rng := false, serr := false }) := by
  by_cases h : 999999 < v.natAbs
  · exact .inl ⟨h, render_outOfRange c v h⟩
  · by_cases h1 : v < 0 ∧ 100000 ≤ v.natAbs
    · exact .inr (.inl ⟨h1.1, h1.2, by omega, render_signOverflow c v h1.1 h1.2 (by omega)⟩)
    · exact .inr (.inr ⟨by omega, by omega, render_numeral c v (by omega) (by omega)⟩)

/-- Slot `i` of the numeric rendering. -/
theorem numeral_slot (i : Fin 6) :
    (numeral c v)[i] =
      if i.val = 0 ∧ forcesOnes c.onesForce v = true then c.seg.dig[0]
      else numeralSlot c.seg (decide (v < 0)) v.natAbs i.val := by
  unfold numeral
  by_cases hf : forcesOnes c.onesForce v = true
  · by_cases hi : i.val = 0
    · have : i = 0 := Fin.ext hi
      subst this
      simp [hf]
    · have h0 : (0 : Nat) ≠ i.val := fun h => hi h.symm
      simp [hf, hi, h0]
  · simp [hf]

end render

/-- The ranges of the formatter (R150). -/
theorem format_ranges (e : Nat) :
    (format e).mm < 100 ∧ (format e).ss < 60 ∧ (format e).hh < 100 ∧
      (format e).mmsshh = (format e).mm * 10000 + (format e).ss * 100 + (format e).hh ∧
      (format e).mmsshh ≤ 995999 := by
  have h1 : e / 6000 % 100 < 100 := Nat.mod_lt _ (by decide)
  have h2 : e / 100 % 60 < 60 := Nat.mod_lt _ (by decide)
  have h3 : e % 100 < 100 := Nat.mod_lt _ (by decide)
  refine ⟨h1, h2, h3, rfl, ?_⟩
  show e / 6000 % 100 * 10000 + e / 100 % 60 * 100 + e % 100 ≤ 995999
  omega

end Sys2Proof.Machine
end

