-- ==== Sys2Proof/Laws/PerInstr.lean ====
section
/-! SUPPORT. The families of lemmas made per operation (LAWS.json). -/

namespace Sys2Proof.Laws

/-- The encoder drives the operation's code of R101 on `op`, with `rst` low, and the code is one of the five defined
ones. -/
def EncodesItsCode.Statement (i : Instr) : Prop :=
  (encode i).op = i.opcode ∧ (encode i).rst = false ∧ i.opcode.toNat < 5 ∧ i.wellFormed = true

theorem EncodesItsCode.nop : EncodesItsCode.Statement .nop := ⟨rfl, rfl, by simp [Instr.opcode], rfl⟩

theorem EncodesItsCode.sample (cv : U32) (irq : Bool) : EncodesItsCode.Statement (.sample cv irq) :=
  ⟨rfl, rfl, by simp [Instr.opcode], rfl⟩

theorem EncodesItsCode.fmt (value : U32) : EncodesItsCode.Statement (.fmt value) := ⟨rfl, rfl, by simp [Instr.opcode], rfl⟩

theorem EncodesItsCode.tick (a b c d mode : Bool) (cv : U32) (irq : Bool) :
    EncodesItsCode.Statement (.tick a b c d mode cv irq) := ⟨rfl, rfl, by simp [Instr.opcode], rfl⟩

theorem EncodesItsCode.enc (value : U32) : EncodesItsCode.Statement (.enc value) := ⟨rfl, rfl, by simp [Instr.opcode], rfl⟩

end Sys2Proof.Laws
end

