-- ==== Sys2Proof/Laws/Step.lean ====
section
/-! SUPPORT. What each operation's state is, as a chain of shared operations, and what one step can do, said once. -/

namespace Sys2Proof.Machine

section exec
variable (s : State)

theorem exec_nop : exec .nop s = .next (beginOp s) := rfl

theorem exec_sample (cv : U32) (irq : Bool) :
    exec (.sample cv irq) s = .next (writeOperr false (sampleBody cv irq (beginOp s))) := rfl

theorem exec_fmt (value : U32) :
    exec (.fmt value) s = .next (writeOperr false (writeFormat (format (zext value)) (beginOp s))) := rfl

theorem exec_enc (value : U32) :
    exec (.enc value) s = .next (writeOperr false (encBody (int32 value) (beginOp s))) := rfl

theorem exec_tick (a b c d mode : Bool) (cv : U32) (irq : Bool) :
    exec (.tick a b c d mode cv irq) s =
      .next (writeOperr false (outputPhase mode
        (eventPhase (selectEvent a b c d) (samplePhase cv irq (beginOp s))))) := rfl

end exec

/-- The fields of the state a reserved code leaves (R104). -/
theorem execReserved_eq (s : State) :
    execReserved s = { s with tcmd := [], flags := Flags.setOperr true s.flags } := rfl

/-- Everything one step can do: hold, reset, run an operation, or meet a reserved code. -/
theorem step_cases (s t : State) (h : step s = .next t) :
    (s.issues = [] ∧ t = s) ∨ ∃ p rest, s.issues = p :: rest ∧
      ((p.rst = true ∧ t = applyReset { s with issues := rest }) ∨
       (p.rst = false ∧ ∃ i, decode p = .operation i ∧ exec i { s with issues := rest } = .next t) ∨
       (p.rst = false ∧ (∃ code, decode p = .reserved code) ∧ t = execReserved { s with issues := rest })) := by
  unfold step stepIssue nextIssue at h
  cases hi : s.issues with
  | nil =>
    simp only [hi, Host.Outcome.next.injEq] at h
    exact .inl ⟨rfl, h.symm⟩
  | cons p rest =>
    refine .inr ⟨p, rest, rfl, ?_⟩
    simp only [hi] at h
    unfold cycle at h
    by_cases hr : p.rst = true
    · rw [if_pos hr, Host.Outcome.next.injEq] at h
      exact .inl ⟨hr, h.symm⟩
    · rw [if_neg hr] at h
      have hr' : p.rst = false := by simpa using hr
      split at h
      · rename_i i hd
        exact .inr (.inl ⟨hr', i, hd, h⟩)
      · rename_i code hd
        rw [Host.Outcome.next.injEq] at h
        exact .inr (.inr ⟨hr', ⟨code, hd⟩, h.symm⟩)

/-- No run of length 0 moves. -/
theorem core_run_zero (s : State) : Sys2Proof.core.run 0 s = .next s := rfl

/-- A run goes on from the state its first step leaves. -/
theorem core_run_succ (n : Nat) (s t : State) (h : step s = .next t) :
    Sys2Proof.core.run (n + 1) s = Sys2Proof.core.run n t := by
  have h' : Sys2Proof.core.step s = .next t := h
  simp only [Host.Core.run, h']

end Sys2Proof.Machine
end

