-- ==== Sys2Proof/Tests/Slice0.lean ====
section
/-! SUPPORT. The model's own tests: the refusals of each check, words written out from the spec's encoding, one or two
steps for each operation from the vectors of spec/95_test_vectors.md, and for each statement with hypotheses a
concrete state and operands that meet them. -/

namespace Sys2Proof.Tests

open Sys2Proof.Machine

/-! ### Helpers -/

/-- The configuration TOY of spec/95_test_vectors.md, with the three modes as parameters. -/
def toy (w : WrapDetect) (d : DispFmt) (o : Bool) : LegalConfig :=
  { load := 1000, prescaler := 0, clockHz := 10000, wrapDetect := w, dispFmt := d, onesForce := o, seg := defaultSeg
    legal := ⟨(by decide : 1 ≤ (1000 : U32).toNat), (by decide : 100 * ((0 : BitVec 8).toNat + 1) ≤ 10000),
      defaultSeg_dpClear⟩ }

/-- TOY right after reset, in the display mode and forcing of the vectors. -/
def toyState (w : WrapDetect) : State := State.resetWith (toy w .mmsshh true)

/-- The state after one operation. -/
def after (i : Instr) (s : State) : State :=
  match exec i s with
  | .next t => t
  | .fault _ => s
  | .refused _ => s

/-- The six slots, leftmost display first, as the vectors write them. -/
def display (s : State) : List Pattern := s.seg.toList.reverse

/-! ### The checks refuse -/

theorem test_wf_refuses_cv : (Line.sample (2 ^ 32) 0).wellFormed = false := by decide
theorem test_wf_refuses_irq : (Line.sample 0 2).wellFormed = false := by decide
theorem test_wf_refuses_value : (Line.fmt (2 ^ 32)).wellFormed = false := by decide
theorem test_wf_refuses_mode : (Line.tick [] (some 2) none none).wellFormed = false := by decide
theorem test_wf_refuses_large_dec : (Line.enc (.dec (2 ^ 31))).wellFormed = false := by decide
theorem test_wf_refuses_small_dec : (Line.enc (.dec (-2 ^ 31 - 1))).wellFormed = false := by decide
theorem test_wf_refuses_hex : (Line.enc (.hex (2 ^ 32))).wellFormed = false := by decide
theorem test_wf_refuses_pseudo : (Line.poll (some 0) (some 2) none).wellFormed = false := by decide

/-- R8: LOAD = 0 is not legal. -/
theorem test_config_refuses_load_zero : ¬ ({ (toy .irq .mmsshh true).toConfig with load := 0 } : Config).Legal := by decide

/-- R11: CLOCK_HZ = 99 with PRESCALER = 0 gives T = 0. -/
theorem test_config_refuses_zero_rate :
    ¬ ({ (toy .irq .mmsshh true).toConfig with clockHz := 99 } : Config).Legal := by decide

/-- R260: a minus sign with bit 7 set. -/
theorem test_config_refuses_dp :
    ¬ ({ (toy .irq .mmsshh true).toConfig with seg := { defaultSeg with minus := 0xC0 } } : Config).Legal := by
  decide

/-! ### Decoding, from the encoding of R101 written out -/

theorem test_decode_nop : decode { Ports.idle with op := 0b000#3 } = .operation .nop := by decide
theorem test_decode_sample :
    decode { Ports.idle with op := 0b001#3, cv := 900, irq := true, value := 7 } = .operation (.sample 900 true) := by
  decide
theorem test_decode_fmt :
    decode { Ports.idle with op := 0b010#3, value := 0x1771, cv := 7 } = .operation (.fmt 6001) := by decide
theorem test_decode_tick :
    decode { Ports.idle with op := 0b011#3, btn_stop := true, cv := 190000000, irq := true } =
      .operation (.tick false true false false false 190000000 true) := by decide
theorem test_decode_enc :
    decode { Ports.idle with op := 0b100#3, value := 0xFFFFFFF0 } = .operation (.enc (BitVec.ofInt 32 (-16))) := by decide
theorem test_decode_reserved :
    [0b101#3, 0b110#3, 0b111#3].map (fun c => decode { Ports.idle with op := c }) =
      [.reserved 0b101#3, .reserved 0b110#3, .reserved 0b111#3] := by decide

/-- Program P3, step 7, as its line is written. -/
theorem test_read_tick_line :
    readLine "TICK start lap mode=0, cv=140000000, irq=0" =
      .operation (.tick [.start, .lap] (some 0) (some 140000000) (some 0)) := by decide

/-- Program P1, step 4: the pattern 0xFFFE1DC0 is -123456. -/
theorem test_assemble_enc_line :
    assemble (.enc (.dec (-123456))) = some { Ports.idle with op := 0b100#3, value := 0xFFFE1DC0 } := by decide

/-! ### One step of each operation (spec/95_test_vectors.md) -/

/-- NOP keeps even OPERR (R200). -/
theorem test_nop_keeps_operr : (after .nop { toyState .irq with flags := 0b11111#5 }).flags = 0b11111#5 := by decide

/-- R149: the wrap seen by comparison. -/
theorem test_sample_compare_wrap :
    let t := after (.sample 900 false) { toyState .compare with last := 0, acc_ticks := BitVec.ofInt 64 (-1000) }
    t.ovf_count = 1 ∧ t.acc_ticks.toInt = -100 ∧ t.last = 900 ∧ t.elapsed = 11 ∧ t.flags = 0b01000#5 ∧ t.tcmd = [] := by
  decide

/-- Vector A1, row 2: the interrupt branch, base 0. -/
theorem test_sample_irq_wrap :
    let t := after (.sample 900 true) (toyState .irq)
    t.ovf_count = 1 ∧ t.acc_ticks.toInt = 900 ∧ t.elapsed = 11 ∧ t.tcmd = [.clrirq] := by decide

/-- Vectors of section 2.2: 0xFFFFFFFF is read unsigned. -/
theorem test_fmt_unsigned :
    let t := after (.fmt 0xFFFFFFFF) (toyState .irq)
    t.fmt_mm = 27 ∧ t.fmt_ss = 52 ∧ t.fmt_hh = 95 ∧ t.fmt_mmsshh = 275295 := by decide

theorem test_fmt_largest : (after (.fmt 599999) (toyState .irq)).fmt_mmsshh = 995999 := by decide

/-- Vector T5: Stop outranks Lap, and the tick samples first. -/
theorem test_tick_stop_lap :
    let s := { toyState .compare with run := .running, last := 900, acc_ticks := BitVec.ofInt 64 (-100), elapsed := 1 }
    let t := after (.tick false true true false false 700 false) s
    t.run = .stopped ∧ t.last = 700 ∧ t.elapsed = 3 ∧ t.lap = 0 ∧ t.tcmd = [.ctrl false true 0] ∧
      display t = [0x00, 0x00, 0x00, 0x00, 0x00, 0x4F] := by decide

/-- R218: Clear while Running in a tick that sees an interrupt. -/
theorem test_tick_clear_commands :
    (after (.tick true true true true false 900 true) { toyState .irq with run := .running, lap := 5 }).tcmd =
      [.clrirq, .ctrl false true 0, .load 0] := by decide

/-- Section 2.1: -16 keeps its ones digit. -/
theorem test_enc_negative :
    let t := after (.enc (BitVec.ofInt 32 (-16))) (toyState .irq)
    display t = [0x00, 0x00, 0x00, 0x40, 0x06, 0x7D] ∧ t.flags = 0b00001#5 := by decide

/-- R273: 123 shows "120". -/
theorem test_enc_forced :
    let t := after (.enc 123) (toyState .irq)
    display t = [0x00, 0x00, 0x00, 0x06, 0x5B, 0x3F] ∧ hexLo t = 0x00065B3F ∧ t.flags = 0 := by decide

/-- A reserved code after an error display (program P4, step 6). -/
theorem test_reserved_sets_operr :
    (execReserved { toyState .irq with flags := 0b01101#5 }).flags = 0b11101#5 := by decide

/-! ### Each statement's hypotheses can be met -/

/-- A state whose next issue drives these ports. -/
def issuing (p : Ports) : State := pushIssue p (toyState .irq)

theorem witness_DecodeAndEncodeAgree :
    (encode .nop).op = 0b000#3 ∧ (encode (.sample 1 true)).op = 0b001#3 ∧ (encode (.fmt 1)).op = 0b010#3 ∧
      (encode (.tick true true true true true 1 true)).op = 0b011#3 ∧ (encode (.enc 1)).op = 0b100#3 ∧
      0b101#3 ≤ { Ports.idle with op := 0b101#3 }.op ∧ 0b101#3 ≤ { Ports.idle with op := 0b111#3 }.op := by decide

theorem witness_AssemblyLines :
    (Line.nop).wellFormed = true ∧ (Line.sample (2 ^ 32 - 1) 1).wellFormed = true ∧
      (Line.fmt (2 ^ 32 - 1)).wellFormed = true ∧ (Line.enc (.dec (-2 ^ 31))).wellFormed = true ∧
      (Line.enc (.dec (2 ^ 31 - 1))).wellFormed = true ∧ (Line.enc (.hex (2 ^ 32 - 1))).wellFormed = true ∧
      (Line.tick [.lap, .start] (some 1) none (some 1)).wellFormed = true ∧
      (Line.start none).wellFormed = true ∧ (Line.stop (some 600) none).wellFormed = true ∧
      (Line.lap (some 0) (some 1)).wellFormed = true ∧ (Line.clear).wellFormed = true ∧
      (Line.poll (some (2 ^ 32 - 1)) (some 1) (some 1)).wellFormed = true := by decide

theorem witness_StepRuns :
    (issuing (encode (.enc 5))).issues = encode (.enc 5) :: [] ∧ (encode (.enc 5)).rst = false ∧
      decode (encode (.enc 5)) = .operation (.enc 5) := by decide

theorem witness_StepWithoutAnIssue : State.reset.issues = [] := rfl

theorem witness_Reserved :
    ∀ c ∈ [0b101#3, 0b110#3, 0b111#3], (issuing { Ports.idle with op := c }).issues = { Ports.idle with op := c } :: [] ∧
      { Ports.idle with op := c }.rst = false ∧ 0b101#3 ≤ c := by decide

theorem witness_Reserved_operations :
    (exec (.fmt 0) (toyState .irq) = .next (after (.fmt 0) (toyState .irq)) ∧ Instr.fmt 0 ≠ .nop) ∧
      exec .nop (toyState .irq) = .next (after .nop (toyState .irq)) := ⟨⟨rfl, by decide⟩, rfl⟩

theorem witness_ResetInput :
    (issuing { Ports.idle with rst := true, op := 0b111#3 }).issues =
        { Ports.idle with rst := true, op := 0b111#3 } :: [] ∧
      { Ports.idle with rst := true, op := 0b111#3 }.rst = true := by decide

theorem witness_Boot :
    (¬ 1 ≤ ticksPerHundredth { (toy .irq .mmsshh true).toConfig with clockHz := 99 }) ∧
      (defaultConfig 1 255).clockHz = 200000000 ∧ (defaultConfig 1 255).prescaler = 255 ∧
      1 ≤ ticksPerHundredth { (toy .irq .mmsshh true).toConfig with clockHz := 100 } := by decide

theorem witness_ConfigurationIsConstant :
    step (issuing (encode (.fmt 1))) = .next (after (.fmt 1) (toyState .irq)) ∧ step State.reset = .next State.reset :=
  ⟨rfl, rfl⟩

/-- Each mode, at the boundary of the strict comparison: `cv = last` and `cv = last + 1`. -/
theorem witness_Sample :
    (toyState .irq).cfg.wrapDetect = .irq ∧ (toyState .compare).cfg.wrapDetect = .compare ∧
      (toyState .combined).cfg.wrapDetect = .combined ∧
      (false = true ↔ (toyState .compare).last < (1000 : U32)) ∧
      (true = true ↔ (toyState .compare).last < (1001 : U32)) ∧
      (false = true ↔ (false = true ∨ (toyState .combined).last < (1000 : U32))) ∧
      (true = true ↔ (true = true ∨ (toyState .combined).last < (1000 : U32))) := by decide

theorem witness_FmtFieldsRecombine : exec (.fmt 600000) (toyState .irq) = .next (after (.fmt 600000) (toyState .irq)) :=
  rfl

/-- Vector A2: the samples 1000, 750, 0 and then 900. -/
theorem witness_OneWrap :
    let s := { toyState .compare with issues := ([1000, 750, 0] ++ [900]).map quietSample }
    s.cfg.wrapDetect ≠ .irq ∧ s.last = s.cfg.load ∧ s.issues = (([1000, 750, 0] : List U32) ++ [900]).map quietSample ∧
      (s.cfg.load :: [1000, 750, 0]).IsChain (fun a b => b ≤ a) ∧
      ([1000, 750, 0] : List U32).getLastD s.cfg.load < 900 ∧ (900 : U32) ≤ s.cfg.load ∧
      s.ovf_count.toNat + 1 < 2 ^ 32 ∧
      (s.cfg.load.toNat - (900 : U32).toNat) / ticksPerHundredth s.cfg.toConfig +
        (s.ovf_count.toNat + 1) * hundredthsPerWrap s.cfg.toConfig < 2 ^ 32 ∧
      1 ≤ 3 ∧ 3 ≤ ([1000, 750, 0] : List U32).length := by
  refine ⟨by decide, rfl, rfl, ?_, by decide, by decide, by decide, by decide, by decide, by decide⟩
  simp [toyState, toy, State.resetWith]

/-- The configuration BIG of spec/95_test_vectors.md (program P5), with `LOAD` at its largest. -/
def bigState : State :=
  State.resetWith
    { load := 4294967295, prescaler := 255, clockHz := 200000000, wrapDetect := .compare, dispFmt := .raw
      onesForce := true, seg := defaultSeg
      legal := ⟨(by decide : 1 ≤ (4294967295 : U32).toNat),
        (by decide : 100 * ((255 : BitVec 8).toNat + 1) ≤ 200000000), defaultSeg_dpClear⟩ }

/-- The samples of program P5 under BIG, with `ovf_count` as large as the elapsed bound lets it be: one wrap more
would break the bound. -/
theorem witness_OneWrap_big :
    let s := { bigState with ovf_count := 7811, issues := (([4294967295, 100] : List U32) ++ [4294967000]).map quietSample }
    s.cfg.wrapDetect ≠ .irq ∧ s.last = s.cfg.load ∧
      s.issues = (([4294967295, 100] : List U32) ++ [4294967000]).map quietSample ∧
      (s.cfg.load :: [4294967295, 100]).IsChain (fun a b => b ≤ a) ∧
      ([4294967295, 100] : List U32).getLastD s.cfg.load < 4294967000 ∧ (4294967000 : U32) ≤ s.cfg.load ∧
      s.ovf_count.toNat + 1 < 2 ^ 32 ∧
      (s.cfg.load.toNat - (4294967000 : U32).toNat) / ticksPerHundredth s.cfg.toConfig +
        (s.ovf_count.toNat + 1) * hundredthsPerWrap s.cfg.toConfig < 2 ^ 32 ∧
      ¬ (s.ovf_count.toNat + 1 + 1) * hundredthsPerWrap s.cfg.toConfig < 2 ^ 32 := by
  refine ⟨by decide, rfl, rfl, ?_, by decide, by decide, by decide, by decide, by decide⟩
  simp [bigState, State.resetWith]

theorem witness_EncBlanks :
    (BitVec.ofInt 32 (-1000000)).toInt < -999999 ∧ 999999 < (BitVec.ofInt 32 1000000).toInt ∧
      (0x80000000#32).toInt < -999999 := by decide

theorem witness_EncError :
    (-999999 ≤ (BitVec.ofInt 32 (-999999)).toInt ∧ (BitVec.ofInt 32 (-999999)).toInt ≤ -100000) ∧
      (-999999 ≤ (BitVec.ofInt 32 (-100000)).toInt ∧ (BitVec.ofInt 32 (-100000)).toInt ≤ -100000) := by decide

theorem witness_EncDigits :
    (-99999 ≤ (BitVec.ofInt 32 (-99999)).toInt ∧ (BitVec.ofInt 32 (-99999)).toInt ≤ 999999) ∧
      (-99999 ≤ (BitVec.ofInt 32 999999).toInt ∧ (BitVec.ofInt 32 999999).toInt ≤ 999999) ∧
      (0#32).toInt = 0 ∧ 15 < (16#32).toInt ∧ ¬ 15 < (15#32).toInt ∧ (toyState .irq).cfg.onesForce = true := by decide

/-- Two cores that agree in `SEG` and `ONES_FORCE` and differ elsewhere. -/
theorem witness_EncIsPure :
    let u := { State.resetWith (toy .combined .raw true) with elapsed := 5, flags := 0b11111#5 }
    u.cfg.seg = (toyState .irq).cfg.seg ∧ u.cfg.onesForce = (toyState .irq).cfg.onesForce ∧ u.cfg ≠ (toyState .irq).cfg := by
  decide

theorem witness_EncInjective :
    let s := State.resetWith (toy .irq .mmsshh false)
    s.cfg.onesForce = false ∧ (s.cfg.seg.dig.toList ++ [s.cfg.seg.minus, blankPattern]).Nodup ∧
      -99999 ≤ (7#32).toInt ∧ (7#32).toInt ≤ 999999 ∧ exec (.enc 7) s = .next (after (.enc 7) s) ∧
      (after (.enc 7) s).seg = (after (.enc 7) s).seg := by
  refine ⟨by decide, by decide, by decide, by decide, rfl, rfl⟩

/-- The hypotheses on `run` alone: one state Running, one Stopped (TickSamplesWhileRunning, TickStopDisablesTheTimer,
TickLapSnapshotsElapsed; TickIgnoresTheSampleWhileStopped, TickStartArmsTheTimer, ClearTwiceIsClearOnce). -/
theorem witness_run :
    ({ toyState .irq with run := .running } : State).run = .running ∧ (toyState .irq).run = .stopped := ⟨rfl, rfl⟩

/-- The clauses of TickClearReturnsToZero: a Clear from Running that saw an interrupt. -/
theorem witness_TickClear :
    exec (.sample 900 true) { toyState .irq with run := .running } =
      .next (after (.sample 900 true) { toyState .irq with run := .running }) := rfl

/-- Start while Running, Stop with Start while Stopped, Lap while Stopped. -/
theorem witness_TickWithoutEvent :
    let r := { toyState .irq with run := .running }
    let s := toyState .irq
    ((false = true ∨ false = true → r.run = .stopped) ∧ (true = true → false = false → false = false → r.run = .running)) ∧
      ((true = true ∨ false = true → s.run = .stopped) ∧
        (true = true → true = false → false = false → s.run = .running)) ∧
      ((false = true ∨ true = true → s.run = .stopped) ∧
        (false = true → false = false → true = false → s.run = .running)) := by decide

/-- RAW, at the boundaries of the four ranges of the source. -/
theorem witness_RawDisplay :
    let s := State.resetWith (toy .compare .raw true)
    s.cfg.dispFmt = .raw ∧
      [999999, 1000000, 2 ^ 32 - 1000000, 2 ^ 32 - 999999, 2 ^ 32 - 100000, 2 ^ 32 - 99999].map
          (fun e => (after (poll false 0 false) { s with elapsed := BitVec.ofNat 32 e }).disp.toNat) =
        [999999, 1000000, 2 ^ 32 - 1000000, 2 ^ 32 - 999999, 2 ^ 32 - 100000, 2 ^ 32 - 99999] := by decide

/-- A first tick that counts no wrap, while Stopped. -/
theorem witness_RepeatedTick :
    exec (poll false 5 false) (toyState .irq) = .next (after (poll false 5 false) (toyState .irq)) ∧
      Flags.wrap (after (poll false 5 false) (toyState .irq)).flags = false := ⟨rfl, by decide⟩

/-- Program P2, shortened: Start, one poll, Lap, Stop, Clear. -/
theorem witness_StartLapStopClear :
    let s : State :=
      { toyState .compare with
        issues := [encode (.tick true false false false false 0 false)] ++
          [(false, (500 : U32), false)].map (fun x => encode (poll x.1 x.2.1 x.2.2)) ++
          [encode (.tick false false true false false 0 false), encode (.tick false true false false false 600 false),
            encode (.tick false false false true false 0 false)] }
    s.issues.length = 5 := by decide

/-- A cleared state whose issues hold a reset, a Lap, a Start with Stop, an ENC and a reserved code. -/
theorem witness_ClearedStays :
    Cleared (toyState .irq) ∧
      ∀ p ∈ [{ Ports.idle with rst := true, op := 0b001#3 }, encode (.tick false false true false false 9 true),
        encode (.tick true true false false true 9 false), encode (.enc 5), { Ports.idle with op := 0b111#3 }],
        KeepsCleared p := by
  refine ⟨⟨rfl, rfl, rfl⟩, ?_⟩
  unfold KeepsCleared
  decide

theorem witness_WriteMatrix :
    exec (.enc 5) (toyState .irq) = .next (after (.enc 5) (toyState .irq)) ∧
      (∀ a b c d m k q, Instr.enc 5 ≠ .tick a b c d m k q) ∧ (∀ k q, Instr.enc 5 ≠ .sample k q) ∧
      (∀ v, Instr.enc 5 ≠ .fmt v) ∧ (∀ v, Instr.fmt 5 ≠ .enc v) := by
  refine ⟨rfl, ?_, ?_, ?_, ?_⟩ <;> intros <;> simp

/-- A Start that changes `run`, a Lap that changes `lap`. -/
theorem witness_RunAndLapChange :
    let s := toyState .irq
    let r := { toyState .irq with run := .running }
    (exec (.tick true false false false false 0 false) s = .next (after (.tick true false false false false 0 false) s) ∧
      (after (.tick true false false false false 0 false) s).run ≠ s.run) ∧
    (exec (.tick false false true false false 500 false) r = .next (after (.tick false false true false false 500 false) r) ∧
      (after (.tick false false true false false 500 false) r).lap ≠ r.lap) :=
  ⟨⟨rfl, by decide⟩, rfl, by decide⟩

theorem witness_InterruptCleared :
    (toyState .irq).cfg.wrapDetect ≠ .compare ∧ TimerCmd.clrirq ∈ (after (.sample 9 true) (toyState .irq)).tcmd := by decide

/-- A state with the invariant, and its next step: TOY after a SAMPLE that counts a wrap, showing 11. -/
theorem witness_StepKeepsInvariant :
    let s : State :=
      { toyState .irq with
        ovf_count := 1, last := 900, elapsed := 11, fmt_hh := 11, fmt_mmsshh := 11, disp := 11, tcmd := [.clrirq]
        issues := [encode (.fmt 6001)] }
    Inv s ∧ step s = .next (after (.fmt 6001) { s with issues := [] }) := by
  refine ⟨⟨⟨by decide, by decide, by decide, by decide⟩, ⟨by decide, by decide, by decide, by decide, by decide⟩,
    ⟨[.clrirq], [], rfl, .inr ⟨rfl, by decide⟩, .inl rfl⟩, .inl (by decide), fun _ => by decide⟩, rfl⟩

/-- Stopped, with a first sample at the boundary `cv = LOAD`. -/
theorem witness_FirstSample :
    ({ toyState .combined with last := 0 } : State).run = .stopped ∧
      (1000 : U32) ≤ ({ toyState .combined with last := 0 } : State).cfg.load := ⟨rfl, by decide⟩

theorem witness_PendingInterrupt :
    (toyState .combined).run = .stopped ∧ (toyState .combined).cfg.wrapDetect ≠ .compare := by decide

theorem witness_CombinedTwice :
    (toyState .combined).cfg.wrapDetect = .combined ∧
      ({ toyState .combined with last := 400 } : State).last < (950 : U32) := by decide

/-- A timer of 1001 ticks a period that counts from 1000 down to 0, sampled every 1000 ticks. -/
theorem witness_Sampling :
    let c : Nat → Nat := fun t => 1000 - t % 1001
    let s := { toyState .compare with issues := [1000, 2000].map (fun t => quietSample (BitVec.ofNat 32 (c t))) }
    s.cfg.wrapDetect = .compare ∧ CountsDown s.cfg.load.toNat 1001 c ∧ s.last.toNat = c 0 ∧
      SampledOften 1001 [0, 1000, 2000] ∧ [1000, 2000] ≠ [] := by
  refine ⟨rfl, ⟨by decide, ?_, ?_, ?_⟩, rfl, ?_, by decide⟩
  · intro t
    exact Nat.sub_le 1000 (t % 1001)
  · intro t
    show 1000 - (t + 1001) % 1001 = 1000 - t % 1001
    rw [Nat.add_mod_right]
  · intro t u h hd
    show 1000 - u % 1001 < 1000 - t % 1001
    omega
  · simp [SampledOften]

end Sys2Proof.Tests
end

section
/-! The scope of the core (spec/00_scope.md): the defaults behind `State.reset`, the tick rate and the legality of a
configuration, and what ONES_FORCE = 0 makes of the display. -/

namespace Sys2Proof.Machine

section defaults

theorem reset_cfg_toConfig : State.reset.cfg.toConfig = defaultConfig openLoadValue Config.openPrescaler := rfl

/-- Settles O11: the configuration is the default one, whatever the two OPEN parameters are. -/
theorem resetConfigurationHasTheDefaults : Obligations.ResetConfigurationHasTheDefaults := by
  unfold Obligations.ResetConfigurationHasTheDefaults
  rw [reset_cfg_toConfig]
  exact ⟨rfl, rfl, rfl, rfl, rfl, rfl, rfl⟩

end defaults

section boot

theorem boot_of_legal (c : LegalConfig) : State.boot c.toConfig = .next (State.resetWith c) := dif_pos c.legal

theorem boot_of_not_legal (c : Config) (h : ¬ c.Legal) : State.boot c = .refused .illegalConfiguration := dif_neg h

theorem one_le_ticksPerHundredth_of_legal {c : Config} (h : c.Legal) : 1 ≤ ticksPerHundredth c :=
  (ticksPerHundredth_pos_iff c).2 h.2.1

/-- R11 at the default clock: the largest prescaler gives the smallest `T`. -/
theorem ticksPerHundredth_of_defaultClock (c : Config) (h : c.clockHz = 200000000) :
    7812 ≤ ticksPerHundredth c ∧ (c.prescaler = 255 → ticksPerHundredth c = 7812) := by
  have hp := c.prescaler.isLt
  constructor
  · rw [ticksPerHundredth, h, Nat.le_div_iff_mul_le (by omega)]
    omega
  · intro h255
    simp [ticksPerHundredth, h, h255]

/-- Settles O12: a legal configuration has `T >= 1` (`ticksPerHundredth_pos_iff`), so one with `T = 0` is illegal, and
`State.boot` refuses it. -/
theorem bootRefusesATickRateOfZero : Obligations.BootRefusesATickRateOfZero := by
  unfold Obligations.BootRefusesATickRateOfZero
  refine ⟨fun _ => rfl, ?_, ticksPerHundredth_pos_iff, ticksPerHundredth_of_defaultClock, ?_⟩
  · intro c hT
    exact boot_of_not_legal c fun hc => hT (one_le_ticksPerHundredth_of_legal hc)
  · intro c
    exact ⟨one_le_ticksPerHundredth_of_legal c.legal, boot_of_legal c⟩

end boot

/-! ### The display without ONES_FORCE

Each slot shows one of twelve glyphs. Where these are different patterns, a slot determines its glyph, and the six
glyphs determine the number of digits, the sign and the digits, hence the value. -/

section injective

/-- The patterns of a numeral: the digits 0 to 9, then the minus sign at 10 and Blank at 11. -/
def glyphs (t : SegTable) : List Pattern := t.dig.toList ++ [t.minus, blankPattern]

/-- How many digits the display shows of `v`: those of its magnitude, and the one "0" of zero (R269). -/
def shownDigits (v : Int) : Nat := max 1 (ndigits v.natAbs)

/-- Which glyph slot `i` shows of `v` (R266, R268), as an index into `glyphs`. -/
def glyphIndex (v : Int) (i : Nat) : Nat :=
  if i < shownDigits v then digit v.natAbs i
  else if v < 0 ∧ i = shownDigits v then 10
  else 11

theorem glyphs_length (t : SegTable) : (glyphs t).length = 12 := by simp [glyphs]

theorem glyphs_digit (t : SegTable) (d : Fin 10) : (glyphs t)[d.val]? = some t.dig[d] := by
  simp [glyphs, List.getElem?_append_left]

theorem glyphs_minus (t : SegTable) : (glyphs t)[10]? = some t.minus := by
  simp [glyphs]

theorem glyphs_blank (t : SegTable) : (glyphs t)[11]? = some blankPattern := by
  simp [glyphs]

theorem shownDigits_of_ne_zero {v : Int} (h : v ≠ 0) : shownDigits v = ndigits v.natAbs := by
  have h0 := lt_ndigits_iff v.natAbs 0
  unfold shownDigits
  omega

/-- A negative value in range leaves a slot for its sign (R267). -/
theorem shownDigits_lt_six_of_neg {v : Int} (h : -99999 ≤ v) (hv : v < 0) : shownDigits v < 6 := by
  have h5 := (ndigits_le_iff v.natAbs 5).2 (by omega)
  unfold shownDigits
  omega

theorem glyphIndex_lt_ten_iff (v : Int) (i : Nat) : glyphIndex v i < 10 ↔ i < shownDigits v := by
  unfold glyphIndex
  split
  next h => simp [h]
  next h => split <;> simp [h]

theorem glyphIndex_eq_ten_iff (v : Int) (i : Nat) : glyphIndex v i = 10 ↔ v < 0 ∧ i = shownDigits v := by
  unfold glyphIndex
  split
  next h => have := (digit v.natAbs i).isLt; omega
  next h => split <;> simp_all

theorem glyphIndex_lt_twelve (v : Int) (i : Nat) : glyphIndex v i < 12 := by
  unfold glyphIndex
  split
  next h => have := (digit v.natAbs i).isLt; omega
  next h => split <;> omega

/-- Above the digits shown the magnitude has the digit 0. -/
theorem digit_of_shownDigits_le {v : Int} {i : Nat} (h : shownDigits v ≤ i) : digit v.natAbs i = 0 := by
  have hm : v.natAbs < 10 ^ i := (ndigits_le_iff v.natAbs i).1 (le_trans (Nat.le_max_right ..) h)
  simp [digit, Nat.div_eq_of_lt hm]

theorem glyphIndex_of_lt {v : Int} {i : Nat} (h : i < shownDigits v) : glyphIndex v i = digit v.natAbs i := if_pos h

/-- Without ONES_FORCE each slot shows its glyph. Zero is the one value whose slot 0 is forced (R269), and to the digit
0, which is the digit its magnitude has there. -/
theorem glyphs_glyphIndex (c : Config) (v : Int) (hf : c.onesForce = false) (i : Fin 6) :
    (glyphs c.seg)[glyphIndex v i]? = some (numeral c v)[i] := by
  rw [numeral_slot]
  by_cases hv : v = 0
  · subst hv
    by_cases hi : i.val = 0
    · rw [if_pos ⟨hi, by simp [forcesOnes]⟩, hi]
      exact glyphs_digit c.seg 0
    · have hg : glyphIndex 0 i.val = 11 := by simp [glyphIndex, shownDigits, hi]
      rw [if_neg (fun h => hi h.1), hg, glyphs_blank]
      simp [numeralSlot]
  · rw [if_neg (by simp [forcesOnes, hv, hf]), glyphIndex, shownDigits_of_ne_zero hv, numeralSlot]
    simp only [decide_eq_true_eq]
    split_ifs
    · exact glyphs_digit c.seg _
    · exact glyphs_minus c.seg
    · exact glyphs_blank c.seg

/-- With distinct glyphs, two equal numerals show the same glyph in every slot. -/
theorem glyphIndex_eq_of_numeral_eq {c : Config} {v w : Int} (hf : c.onesForce = false) (hd : (glyphs c.seg).Nodup)
    (h : numeral c v = numeral c w) (i : Fin 6) : glyphIndex v i = glyphIndex w i := by
  have hlt : glyphIndex v i < (glyphs c.seg).length := by
    rw [glyphs_length]
    exact glyphIndex_lt_twelve v i
  refine (List.getElem?_inj hlt hd).1 ?_
  rw [glyphs_glyphIndex c v hf, glyphs_glyphIndex c w hf, h]

/-- The same glyph means the same digit of the magnitude: both slots are among the digits shown, or neither is and
both magnitudes have the digit 0 there. -/
theorem digit_eq_of_glyphIndex_eq {v w : Int} {i : Nat} (h : glyphIndex v i = glyphIndex w i) :
    digit v.natAbs i = digit w.natAbs i := by
  have hiff : i < shownDigits v ↔ i < shownDigits w := by
    rw [← glyphIndex_lt_ten_iff, ← glyphIndex_lt_ten_iff, h]
  by_cases hi : i < shownDigits v
  · rw [glyphIndex_of_lt hi, glyphIndex_of_lt (hiff.1 hi)] at h
    exact Fin.ext h
  · have hi' : ¬ i < shownDigits w := fun hw => hi (hiff.2 hw)
    rw [digit_of_shownDigits_le (not_lt.1 hi), digit_of_shownDigits_le (not_lt.1 hi')]

/-- The minus sign of a negative value is in one of the six slots, so a value with the same glyphs is negative. -/
theorem neg_of_glyphIndex_eq {v w : Int} (hlo : -99999 ≤ v) (hv : v < 0)
    (h : ∀ i : Fin 6, glyphIndex v i = glyphIndex w i) : w < 0 := by
  have hslot := h ⟨shownDigits v, shownDigits_lt_six_of_neg hlo hv⟩
  have hminus : glyphIndex v (shownDigits v) = 10 := (glyphIndex_eq_ten_iff v _).2 ⟨hv, rfl⟩
  exact ((glyphIndex_eq_ten_iff w _).1 (hslot.symm.trans hminus)).1

/-- Six digits determine a number below 10^6. -/
theorem eq_of_digits_eq {m n : Nat} (hm : m ≤ 999999) (hn : n ≤ 999999) (h : ∀ i : Fin 6, digit m i = digit n i) :
    m = n := by
  have hval (i : Fin 6) : m / 10 ^ i.val % 10 = n / 10 ^ i.val % 10 := congrArg Fin.val (h i)
  have h0 := hval 0
  have h1 := hval 1
  have h2 := hval 2
  have h3 := hval 3
  have h4 := hval 4
  have h5 := hval 5
  norm_num at h0 h1 h2 h3 h4 h5
  omega

/-- Without ONES_FORCE and with distinct glyphs, a numeral determines its value. -/
theorem numeral_injective {c : Config} {v w : Int} (hf : c.onesForce = false) (hd : (glyphs c.seg).Nodup)
    (hv : -99999 ≤ v) (hv' : v ≤ 999999) (hw : -99999 ≤ w) (hw' : w ≤ 999999) (h : numeral c v = numeral c w) :
    v = w := by
  have hg := glyphIndex_eq_of_numeral_eq hf hd h
  have habs : v.natAbs = w.natAbs :=
    eq_of_digits_eq (by omega) (by omega) fun i => digit_eq_of_glyphIndex_eq (hg i)
  have hsign : v < 0 ↔ w < 0 :=
    ⟨fun hneg => neg_of_glyphIndex_eq hv hneg hg, fun hneg => neg_of_glyphIndex_eq hw hneg fun i => (hg i).symm⟩
  omega

/-- What ENC leaves in `seg` for a value of [-99999, 999999]. -/
theorem exec_enc_seg_of_inRange {s t : State} {value : U32} (hlo : -99999 ≤ value.toInt) (hhi : value.toInt ≤ 999999)
    (h : exec (.enc value) s = .next t) : t.seg = numeral s.cfg.toConfig value.toInt := by
  rw [exec_enc, Host.Outcome.next.injEq] at h
  subst h
  simp [int32, render_numeral _ _ hlo hhi]

/-- Settles O24: both values take the numeral path of ENC, and a numeral determines its value. -/
theorem encWithoutForcingIsInjective : Obligations.EncWithoutForcingIsInjective := by
  unfold Obligations.EncWithoutForcingIsInjective
  intro s t u a b hf hd ha ha' hb hb' ht hu htu
  have hnum : numeral s.cfg.toConfig a.toInt = numeral s.cfg.toConfig b.toInt := by
    rw [← exec_enc_seg_of_inRange ha ha' ht, ← exec_enc_seg_of_inRange hb hb' hu, htu]
  exact BitVec.eq_of_toInt_eq (numeral_injective hf hd ha ha' hb hb' hnum)

end injective

end Sys2Proof.Machine
end

section
/-! What an operation of the core can do, said once (spec/10_state.md section 4): the inversion of `exec`, the rows of
the write matrix, and the rules about single registers that follow from it. -/

namespace Sys2Proof.Machine

section writeMatrix

variable {i : Instr} {s t : State}

/-- What one operation does (R147, R151, R200, R217, R271): the state `t` it leaves behind `s`. -/
inductive Effect (s : State) : Instr → State → Prop
  | nop : Effect s .nop (beginOp s)
  | sample (cv : U32) (irq : Bool) :
    Effect s (.sample cv irq) (writeOperr false (sampleBody cv irq (beginOp s)))
  | fmt (value : U32) : Effect s (.fmt value) (writeOperr false (writeFormat (format (zext value)) (beginOp s)))
  | tick (start stop lap clear mode : Bool) (cv : U32) (irq : Bool) :
    Effect s (.tick start stop lap clear mode cv irq)
      (writeOperr false (outputPhase mode
        (eventPhase (selectEvent start stop lap clear) (samplePhase cv irq (beginOp s)))))
  | enc (value : U32) : Effect s (.enc value) (writeOperr false (encBody (int32 value) (beginOp s)))

/-- `Effect` is `exec`, read as a relation. -/
theorem exec_eq_next_iff : exec i s = .next t ↔ Effect s i t := by
  constructor
  · intro h
    cases i <;> cases h <;> constructor
  · rintro (_ | _) <;> rfl

/-- The inversion of `exec`: one case per operation, with the state it leaves written out. -/
theorem effect_of_exec (h : exec i s = .next t) : Effect s i t := exec_eq_next_iff.1 h

/-- The operation is no SAMPLE. -/
abbrev NotSample (i : Instr) : Prop := ∀ cv irq, i ≠ .sample cv irq

/-- The operation is no FMT. -/
abbrev NotFmt (i : Instr) : Prop := ∀ value, i ≠ .fmt value

/-- The operation is no TICK. -/
abbrev NotTick (i : Instr) : Prop :=
  ∀ start stop lap clear mode cv irq, i ≠ .tick start stop lap clear mode cv irq

/-- The operation is no ENC. -/
abbrev NotEnc (i : Instr) : Prop := ∀ value, i ≠ .enc value

theorem exec_sameFixed (h : exec i s = .next t) : SameFixed s t := by
  cases effect_of_exec h <;> exact ⟨by simp, by simp⟩

/-- Only TICK writes `run`, `lap` and `disp`. -/
theorem exec_sameController (h : exec i s = .next t) (hT : NotTick i) : SameController s t ∧ t.disp = s.disp := by
  cases effect_of_exec h with
  | tick => exact (hT _ _ _ _ _ _ _ rfl).elim
  | nop | sample | fmt | enc => exact ⟨⟨by simp, by simp⟩, by simp⟩

/-- Only SAMPLE and TICK write the accumulator and WRAP, and emit commands. -/
theorem exec_sameAccumulator (h : exec i s = .next t) (hT : NotTick i) (hS : NotSample i) :
    SameAccumulator s t ∧ Flags.wrap t.flags = Flags.wrap s.flags ∧ t.tcmd = [] := by
  cases effect_of_exec h with
  | tick => exact (hT _ _ _ _ _ _ _ rfl).elim
  | sample => exact (hS _ _ rfl).elim
  | nop | fmt | enc => exact ⟨⟨by simp, by simp, by simp, by simp⟩, by simp, by simp⟩

/-- Only FMT and TICK write the `fmt_*` registers. -/
theorem exec_sameFormat (h : exec i s = .next t) (hT : NotTick i) (hF : NotFmt i) : SameFormat s t := by
  cases effect_of_exec h with
  | tick => exact (hT _ _ _ _ _ _ _ rfl).elim
  | fmt => exact (hF _ rfl).elim
  | nop | sample | enc => exact ⟨by simp, by simp, by simp, by simp⟩

/-- Only TICK and ENC write `seg`, NEG, RNG and SERR. -/
theorem exec_sameEncoding (h : exec i s = .next t) (hT : NotTick i) (hE : NotEnc i) : SameEncoding s t := by
  cases effect_of_exec h with
  | tick => exact (hT _ _ _ _ _ _ _ rfl).elim
  | enc => exact (hE _ rfl).elim
  | nop | sample | fmt => exact ⟨by simp, by simp, by simp, by simp⟩

/-- NOP holds OPERR, and every other operation clears it (R55). -/
theorem exec_operr (h : exec i s = .next t) :
    Flags.operr t.flags = (decide (i = .nop) && Flags.operr s.flags) := by
  cases effect_of_exec h <;> simp

/-- Settles O42: the rows of the write matrix, one lemma each. -/
theorem writeMatrixHolds : Obligations.WriteMatrixHolds := by
  unfold Obligations.WriteMatrixHolds
  intro i s t h
  exact ⟨exec_sameFixed h, exec_sameController h, exec_sameAccumulator h, exec_sameFormat h, exec_sameEncoding h,
    exec_operr h⟩

end writeMatrix

/-! ### `run` and `lap` (R44, R49) -/

section controller

/-- The event is Start exactly where its button is pressed alone (R203). -/
theorem selectEvent_eq_start_iff (start stop lap clear : Bool) :
    selectEvent start stop lap clear = .start ↔ start = true ∧ stop = false ∧ lap = false ∧ clear = false := by
  revert start stop lap clear; decide

/-- Stop yields to Clear alone (R203). -/
theorem selectEvent_eq_stop_iff (start stop lap clear : Bool) :
    selectEvent start stop lap clear = .stop ↔ stop = true ∧ clear = false := by
  revert start stop lap clear; decide

/-- Lap yields to Clear and Stop (R203). -/
theorem selectEvent_eq_lap_iff (start stop lap clear : Bool) :
    selectEvent start stop lap clear = .lap ↔ stop = false ∧ lap = true ∧ clear = false := by
  revert start stop lap clear; decide

/-- Clear outranks every other button (R203). -/
theorem selectEvent_eq_clear_iff (start stop lap clear : Bool) :
    selectEvent start stop lap clear = .clear ↔ clear = true := by
  revert start stop lap clear; decide

theorem runState_ne_stopped_iff (r : RunState) : r ≠ .stopped ↔ r = .running := by cases r <;> simp

theorem eventPhase_run_ne {e : Event} {s : State} (h : (eventPhase e s).run ≠ s.run) :
    (e = .start ∧ s.run = .stopped) ∨ ((e = .stop ∨ e = .clear) ∧ s.run = .running) := by
  obtain ⟨he, hr, -⟩ | ⟨he, hr, -⟩ | ⟨-, -, heq⟩ | ⟨he, heq⟩ | ⟨-, heq⟩ := eventPhase_cases s e
  · exact .inl ⟨he, hr⟩
  · exact .inr ⟨.inl he, hr⟩
  · simp [heq] at h
  · rw [heq, doClear_run, ne_comm, runState_ne_stopped_iff] at h
    exact .inr ⟨.inr he, h⟩
  · simp [heq] at h

theorem eventPhase_lap_ne {e : Event} {s : State} (h : (eventPhase e s).lap ≠ s.lap) :
    (e = .lap ∧ s.run = .running) ∨ e = .clear := by
  obtain ⟨-, -, heq⟩ | ⟨-, -, heq⟩ | ⟨he, hr, -⟩ | ⟨he, -⟩ | ⟨-, heq⟩ := eventPhase_cases s e
  · simp [heq] at h
  · simp [heq] at h
  · exact .inl ⟨he, hr⟩
  · exact .inr he
  · simp [heq] at h

variable {i : Instr} {s t : State}

/-- `run` changes only by an effective Start, Stop or Clear of a TICK (R44). -/
theorem exec_run_ne (h : exec i s = .next t) (hne : t.run ≠ s.run) :
    ∃ start stop lap clear mode cv irq, i = .tick start stop lap clear mode cv irq ∧
      ((s.run = .stopped ∧ start = true ∧ stop = false ∧ lap = false ∧ clear = false) ∨
       (s.run = .running ∧ (stop = true ∨ clear = true))) := by
  cases effect_of_exec h with
  | nop | sample | fmt | enc => simp at hne
  | tick start stop lap clear mode cv irq =>
    refine ⟨start, stop, lap, clear, mode, cv, irq, rfl, ?_⟩
    have hev := eventPhase_run_ne (e := selectEvent start stop lap clear) (s := samplePhase cv irq (beginOp s))
      (by simpa using hne)
    rw [selectEvent_eq_start_iff, selectEvent_eq_stop_iff, selectEvent_eq_clear_iff, samplePhase_run,
      beginOp_run] at hev
    obtain ⟨hbtn, hr⟩ | ⟨hbtn, hr⟩ := hev
    · exact .inl ⟨hr, hbtn⟩
    · exact .inr ⟨hr, hbtn.imp_left And.left⟩

/-- `lap` changes only by an effective Lap or a Clear of a TICK (R49). -/
theorem exec_lap_ne (h : exec i s = .next t) (hne : t.lap ≠ s.lap) :
    ∃ start stop lap clear mode cv irq, i = .tick start stop lap clear mode cv irq ∧
      (clear = true ∨ (s.run = .running ∧ stop = false ∧ lap = true)) := by
  cases effect_of_exec h with
  | nop | sample | fmt | enc => simp at hne
  | tick start stop lap clear mode cv irq =>
    refine ⟨start, stop, lap, clear, mode, cv, irq, rfl, ?_⟩
    have hev := eventPhase_lap_ne (e := selectEvent start stop lap clear) (s := samplePhase cv irq (beginOp s))
      (by simpa using hne)
    rw [selectEvent_eq_lap_iff, selectEvent_eq_clear_iff, samplePhase_run, beginOp_run] at hev
    obtain ⟨⟨hstop, hlap, -⟩, hr⟩ | hclear := hev
    · exact .inr ⟨hr, hstop, hlap⟩
    · exact .inl hclear

/-- Settles O43: of all operations TICK alone reaches `run` and `lap`, through the event it selects. -/
theorem runAndLapChangeOnlyByTheirEvents : Obligations.RunAndLapChangeOnlyByTheirEvents := by
  unfold Obligations.RunAndLapChangeOnlyByTheirEvents
  intro i s t h
  exact ⟨exec_run_ne h, exec_lap_ne h⟩

end controller

/-! ### `acc_ticks` (R47) -/

section accTicks

/-- A change of `acc_ticks` before `f` changes nothing but `acc_ticks` after it. -/
def AccTicksBlind (f : State → State) : Prop :=
  ∀ (s : State) (x : S64), ∃ y, f { s with acc_ticks := x } = { f s with acc_ticks := y }

theorem AccTicksBlind.comp {f g : State → State} (hg : AccTicksBlind g) (hf : AccTicksBlind f) :
    AccTicksBlind fun s => g (f s) := by
  intro s x
  obtain ⟨y, hy⟩ := hf s x
  obtain ⟨z, hz⟩ := hg (f s) y
  exact ⟨z, (congrArg g hy).trans hz⟩

theorem accTicksBlind_beginOp : AccTicksBlind beginOp := fun _ x => ⟨x, rfl⟩

theorem accTicksBlind_writeOperr (b : Bool) : AccTicksBlind (writeOperr b) := fun _ x => ⟨x, rfl⟩

theorem accTicksBlind_writeFormat (x : Formatted) : AccTicksBlind (writeFormat x) := fun _ y => ⟨y, rfl⟩

theorem accTicksBlind_encBody (v : Int) : AccTicksBlind (encBody v) := fun _ x => ⟨x, rfl⟩

/-- Wrap detection reads `last` and the configuration, never `acc_ticks`. -/
theorem accTicksBlind_sampleBody (cv : U32) (irq : Bool) : AccTicksBlind (sampleBody cv irq) := by
  intro s x
  unfold sampleBody
  dsimp only
  split <;> exact ⟨_, rfl⟩

theorem accTicksBlind_samplePhase (cv : U32) (irq : Bool) : AccTicksBlind (samplePhase cv irq) := by
  rintro ⟨cfg, run⟩ x
  cases run with
  | stopped => exact ⟨x, rfl⟩
  | running => exact accTicksBlind_sampleBody cv irq _ x

/-- An event chooses its effect by `run`, and a Clear writes `acc_ticks` without reading it. -/
theorem accTicksBlind_eventPhase (e : Event) : AccTicksBlind (eventPhase e) := by
  rintro ⟨cfg, run⟩ x
  cases e <;> cases run <;> exact ⟨_, rfl⟩

theorem accTicksBlind_outputPhase (mode : Bool) : AccTicksBlind (outputPhase mode) := fun _ x => ⟨x, rfl⟩

/-- Every operation is blind to `acc_ticks`, for each phase of it is. -/
theorem exec_eq_next_of_accTicksBlind (i : Instr) : ∃ f, AccTicksBlind f ∧ ∀ s, exec i s = .next (f s) := by
  have hbegin := accTicksBlind_beginOp
  have hend := accTicksBlind_writeOperr false
  cases i with
  | nop => exact ⟨_, hbegin, exec_nop⟩
  | sample cv irq =>
    exact ⟨_, hend.comp ((accTicksBlind_sampleBody cv irq).comp hbegin), fun s => exec_sample s cv irq⟩
  | fmt value => exact ⟨_, hend.comp ((accTicksBlind_writeFormat _).comp hbegin), fun s => exec_fmt s value⟩
  | tick start stop lap clear mode cv irq =>
    exact ⟨_, hend.comp ((accTicksBlind_outputPhase mode).comp
      ((accTicksBlind_eventPhase _).comp ((accTicksBlind_samplePhase cv irq).comp hbegin))),
      fun s => exec_tick s start stop lap clear mode cv irq⟩
  | enc value => exact ⟨_, hend.comp ((accTicksBlind_encBody _).comp hbegin), fun s => exec_enc s value⟩

/-- Settles O44: an operation is a state function blind to `acc_ticks`. -/
theorem accTicksIsNeverRead : Obligations.AccTicksIsNeverRead := by
  unfold Obligations.AccTicksIsNeverRead
  intro i s x
  obtain ⟨f, hblind, hexec⟩ := exec_eq_next_of_accTicksBlind i
  obtain ⟨y, hy⟩ := hblind s x
  exact ⟨f s, y, hexec s, by rw [hexec, hy]⟩

end accTicks

/-! ### The output ports (R41) -/

theorem RunState.bit_eq_one_iff (r : RunState) : r.bit = 1 ↔ r = .running := by
  cases r <;> decide

/-- Settles O41: `outputs` reads each register as it stands, and `run` through its bit. -/
theorem outputPortsShowTheRegisters : Obligations.OutputPortsShowTheRegisters := by
  unfold Obligations.OutputPortsShowTheRegisters
  intro s
  exact ⟨s.run.bit_eq_one_iff, rfl, rfl, rfl, rfl, rfl, rfl, rfl, rfl, rfl, rfl, rfl, rfl, rfl⟩

/-! ### The encoder flags (R52, R53) -/

section encFlags

variable (c : Config) (v : Int)

theorem render_rng : (render c v).rng = decide (999999 < v.natAbs) := by
  obtain ⟨hv, h⟩ | ⟨-, -, hv, h⟩ | ⟨hlo, hhi, h⟩ := render_cases c v
  · simp [h, hv]
  · simp [h, hv]
  · have hv : v.natAbs ≤ 999999 := by omega
    simp [h, hv]

/-- RNG is the first path of the encoder and SERR the second. -/
theorem render_rng_serr_exclusive : ¬ ((render c v).rng = true ∧ (render c v).serr = true) := by
  obtain ⟨-, h⟩ | ⟨-, -, -, h⟩ | ⟨-, -, h⟩ := render_cases c v <;> simp [h]

/-- Settles O21: the flags ENC leaves are those of `render`. -/
theorem encFlagsNameThePath : Obligations.EncFlagsNameThePath := by
  unfold Obligations.EncFlagsNameThePath
  intro s value
  have hx := render_rng_serr_exclusive s.cfg.toConfig value.toInt
  refine ⟨_, exec_enc s value, ?_, ?_, ?_, ?_⟩
  · simp [int32]
  · simp [int32, render_rng]
  · simpa [int32] using hx
  · simp

end encFlags

end Sys2Proof.Machine
end

section
/-! The invariant of the core, and that every step keeps it (spec/10_state.md sections 1 and 4, spec/40_accumulator.md
section 4, spec/41_controller.md sections 2 and 4, spec/42_encoder.md section 1). Each part of `Inv` speaks of a few
registers, so it passes between states that share them; the operations that write them establish it anew. -/

namespace Sys2Proof.Machine

/-! ### Each part of the invariant passes to a state with the same registers -/

section transfer

variable {s t : State}

theorem FormatConsistent.of_same (hs : FormatConsistent s) (h : SameFormat s t) : FormatConsistent t where
  mm := h.mm ▸ hs.mm
  ss := h.ss ▸ hs.ss
  hh := h.hh ▸ hs.hh
  mmsshh := by rw [h.mmsshh, h.mm, h.ss, h.hh]; exact hs.mmsshh

theorem DisplayConsistent.of_same (hs : DisplayConsistent s) (h : SameEncoding s t) (hcfg : t.cfg = s.cfg) :
    DisplayConsistent t where
  exclusive := by rw [h.rng, h.serr]; exact hs.exclusive
  serr_neg := by rw [h.serr, h.neg]; exact hs.serr_neg
  blank := by rw [h.rng, h.seg]; exact hs.blank
  error := by rw [h.serr, h.seg, hcfg]; exact hs.error
  dpClear := by rw [h.seg]; exact hs.dpClear

theorem CommandsLegal.of_same (hs : CommandsLegal s) (h : t.tcmd = s.tcmd) (hcfg : t.cfg = s.cfg) :
    CommandsLegal t := by
  unfold CommandsLegal
  rw [h, hcfg]
  exact hs

theorem AccumulatorConsistent.of_same (hs : AccumulatorConsistent s) (h : SameAccumulator s t)
    (hcfg : t.cfg = s.cfg) : AccumulatorConsistent t := by
  unfold AccumulatorConsistent
  rw [h.elapsed, h.last, h.ovf_count, hcfg]
  exact hs

theorem DispConsistent.of_same (hs : DispConsistent s) (h : t.disp = s.disp) (hcfg : t.cfg = s.cfg) :
    DispConsistent t := by
  unfold DispConsistent
  rw [h, hcfg]
  exact hs

theorem formatConsistent_writeOperr (hs : FormatConsistent s) (b : Bool) : FormatConsistent (writeOperr b s) :=
  hs.of_same ⟨rfl, rfl, rfl, rfl⟩

/-- OPERR is none of the encoder flags. -/
theorem displayConsistent_writeOperr (hs : DisplayConsistent s) (b : Bool) : DisplayConsistent (writeOperr b s) :=
  hs.of_same ⟨rfl, by simp, by simp, by simp⟩ rfl

theorem accumulatorConsistent_writeOperr (hs : AccumulatorConsistent s) (b : Bool) :
    AccumulatorConsistent (writeOperr b s) := hs.of_same ⟨rfl, rfl, rfl, rfl⟩ rfl

theorem dispConsistent_writeOperr (hs : DispConsistent s) (b : Bool) : DispConsistent (writeOperr b s) :=
  hs.of_same rfl rfl

end transfer

/-! ### What each write establishes -/

section establish

variable (s : State)

/-- A number that fits in a register is read back as it was written. -/
theorem toNat_ofNat_of_lt {w n : Nat} (h : n < 2 ^ w) : (BitVec.ofNat w n).toNat = n := by
  rw [BitVec.toNat_ofNat, Nat.mod_eq_of_lt h]

/-- The `fmt_*` registers are wide enough for the results of the formatter (R150). -/
theorem formatConsistent_writeFormat (e : Nat) : FormatConsistent (writeFormat (format e) s) := by
  obtain ⟨hmm, hss, hhh, hpack, hmax⟩ := format_ranges e
  have hmm' : (BitVec.ofNat 7 (format e).mm).toNat = (format e).mm := toNat_ofNat_of_lt (by omega)
  have hss' : (BitVec.ofNat 6 (format e).ss).toNat = (format e).ss := toNat_ofNat_of_lt (by omega)
  have hhh' : (BitVec.ofNat 7 (format e).hh).toNat = (format e).hh := toNat_ofNat_of_lt (by omega)
  have hpack' : (BitVec.ofNat 20 (format e).mmsshh).toNat = (format e).mmsshh :=
    toNat_ofNat_of_lt (by omega)
  constructor <;> simpa only [writeFormat_fmt_mm, writeFormat_fmt_ss, writeFormat_fmt_hh, writeFormat_fmt_mmsshh,
    hmm', hss', hhh', hpack']

theorem blankPattern_dpClear : blankPattern.getLsbD 7 = false := by decide

theorem numeralSlot_dpClear {g : SegTable} (hg : g.DpClear) (neg : Bool) (m i : Nat) :
    (numeralSlot g neg m i).getLsbD 7 = false := by
  obtain ⟨hdig, hminus, -⟩ := hg
  unfold numeralSlot
  split_ifs
  · exact hdig _ (by simp)
  · exact hminus
  · exact blankPattern_dpClear

/-- The encoder writes no pattern but those of the glyph table and Blank (R260). -/
theorem render_dpClear {c : Config} (hc : c.seg.DpClear) (v : Int) (i : Fin 6) :
    ((render c v).seg[i]).getLsbD 7 = false := by
  have ⟨hdig, _, herr⟩ := hc
  obtain ⟨-, h⟩ | ⟨-, -, -, h⟩ | ⟨-, -, h⟩ := render_cases c v <;> simp only [h]
  · simpa using blankPattern_dpClear
  · exact herr _ (by simp)
  · rw [numeral_slot]
    split_ifs
    · exact hdig _ (by simp)
    · exact numeralSlot_dpClear hc ..

theorem cfg_seg_dpClear : s.cfg.seg.DpClear := by
  obtain ⟨-, -, hdp⟩ := s.cfg.legal
  exact hdp

/-- Each path of the encoder sets the flags that go with its patterns (R264, R267). -/
theorem displayConsistent_encBody (v : Int) : DisplayConsistent (encBody v s) := by
  have hdp := render_dpClear (cfg_seg_dpClear s) v
  obtain ⟨-, h⟩ | ⟨-, -, -, h⟩ | ⟨-, -, h⟩ := render_cases s.cfg.toConfig v <;>
    exact ⟨by simp [h], by simp [h], by simp [h], by simp [h], hdp⟩

theorem formatConsistent_outputPhase (mode : Bool) : FormatConsistent (outputPhase mode s) :=
  (formatConsistent_writeFormat s (zext (displaySource mode s))).of_same ⟨rfl, rfl, rfl, rfl⟩

theorem displayConsistent_outputPhase (mode : Bool) : DisplayConsistent (outputPhase mode s) :=
  displayConsistent_encBody ..

/-- A sample leaves `elapsed` at the formula (R145, R155). -/
theorem accumulatorConsistent_sampleBody (cv : U32) (irq : Bool) :
    AccumulatorConsistent (sampleBody cv irq s) := by
  left
  simp [elapsedHundredths_toNat]

/-- Start and Clear put `LOAD` in `last`; the other events leave the accumulator alone (R155). -/
theorem accumulatorConsistent_eventPhase {s : State} (e : Event) (hs : AccumulatorConsistent s) :
    AccumulatorConsistent (eventPhase e s) := by
  obtain ⟨-, -, h⟩ | ⟨-, -, h⟩ | ⟨-, -, h⟩ | ⟨-, h⟩ | ⟨-, h⟩ := eventPhase_cases s e <;> rw [h]
  · exact .inr rfl
  · exact hs.of_same ⟨rfl, rfl, rfl, rfl⟩ rfl
  · exact hs.of_same ⟨rfl, rfl, rfl, rfl⟩ rfl
  · exact .inr (by simp)
  · exact hs

theorem accumulatorConsistent_samplePhase {s : State} (cv : U32) (irq : Bool) (hs : AccumulatorConsistent s) :
    AccumulatorConsistent (samplePhase cv irq s) := by
  cases hr : s.run with
  | running =>
    rw [samplePhase_running _ _ _ hr]
    exact accumulatorConsistent_sampleBody ..
  | stopped =>
    rw [samplePhase_stopped _ _ _ hr]
    exact hs.of_same ⟨rfl, rfl, rfl, rfl⟩ rfl

theorem accumulatorConsistent_outputPhase {s : State} (hs : AccumulatorConsistent s) (mode : Bool) :
    AccumulatorConsistent (outputPhase mode s) := hs.of_same ⟨rfl, rfl, rfl, rfl⟩ rfl

/-- Under MMSSHH the output phase shows a result of the formatter (R215). -/
theorem dispConsistent_outputPhase (mode : Bool) : DispConsistent (outputPhase mode s) := by
  intro hf
  obtain ⟨-, -, -, -, hmax⟩ := format_ranges (zext (displaySource mode s))
  rw [outputPhase_cfg] at hf
  rw [outputPhase_disp, hf, displayValue, dispWord, BitVec.ofInt_natCast, toNat_ofNat_of_lt (by omega)]
  exact hmax

end establish

/-! ### The command list (R146, R205) -/

section commands

theorem commandsLegal_of_nil {s : State} (h : s.tcmd = []) : CommandsLegal s := ⟨[], [], h, .inl rfl, .inl rfl⟩

/-- The interrupt is cleared never under COMPARE (R146). -/
theorem clearCmds_legal (cv : U32) (irq : Bool) (s : State) :
    clearCmds (wrapOf cv irq s).clear = [] ∨
      (clearCmds (wrapOf cv irq s).clear = [.clrirq] ∧ s.cfg.wrapDetect ≠ .compare) := by
  rw [wrapOf, detectWrap_clear]
  by_cases hm : s.cfg.wrapDetect = .compare
  · simp [hm]
  · cases irq <;> simp [hm]

theorem samplePhase_tcmd_legal (cv : U32) (irq : Bool) {s : State} (h : s.tcmd = []) :
    (samplePhase cv irq s).tcmd = [] ∨
      ((samplePhase cv irq s).tcmd = [.clrirq] ∧ s.cfg.wrapDetect ≠ .compare) := by
  cases hr : s.run with
  | running =>
    rw [samplePhase_running _ _ _ hr, sampleBody_tcmd, h]
    exact clearCmds_legal cv irq s
  | stopped =>
    rw [samplePhase_stopped _ _ _ hr]
    exact .inl h

/-- An event appends the commands of one Start, Stop or Clear, or none (R205). -/
theorem eventPhase_tcmd (e : Event) (s : State) :
    ∃ back, (eventPhase e s).tcmd = s.tcmd ++ back ∧
      (back = [] ∨ back = [.load s.cfg.load, .ctrl true true s.cfg.prescaler] ∨
        back = [.ctrl false true s.cfg.prescaler] ∨ back = [.load 0] ∨
        back = [.ctrl false true s.cfg.prescaler, .load 0]) := by
  obtain ⟨-, -, h⟩ | ⟨-, -, h⟩ | ⟨-, -, h⟩ | ⟨-, h⟩ | ⟨-, h⟩ := eventPhase_cases s e <;> rw [h]
  · exact ⟨_, by rw [doStart_tcmd, List.append_assoc]; rfl, .inr (.inl rfl)⟩
  · exact ⟨_, doStop_tcmd s, .inr (.inr (.inl rfl))⟩
  · exact ⟨[], by simp, .inl rfl⟩
  · refine ⟨_, doClear_tcmd s, ?_⟩
    cases s.run <;> simp
  · exact ⟨[], by simp, .inl rfl⟩

end commands

/-! ### Every operation keeps each part -/

section operations

variable {i : Instr} {s t : State}

theorem exec_formatConsistent (h : exec i s = .next t) (hs : FormatConsistent s) : FormatConsistent t := by
  cases effect_of_exec h with
  | fmt => exact formatConsistent_writeOperr (formatConsistent_writeFormat ..) _
  | tick => exact formatConsistent_writeOperr (formatConsistent_outputPhase ..) _
  | nop | sample | enc => exact hs.of_same (exec_sameFormat h nofun nofun)

theorem exec_displayConsistent (h : exec i s = .next t) (hs : DisplayConsistent s) : DisplayConsistent t := by
  cases effect_of_exec h with
  | tick => exact displayConsistent_writeOperr (displayConsistent_outputPhase ..) _
  | enc => exact displayConsistent_writeOperr (displayConsistent_encBody ..) _
  | nop | sample | fmt => exact hs.of_same (exec_sameEncoding h nofun nofun) (exec_sameFixed h).cfg

/-- The commands of an operation do not depend on those before it (R58). -/
theorem exec_commandsLegal (h : exec i s = .next t) : CommandsLegal t := by
  cases effect_of_exec h with
  | nop | fmt | enc => exact commandsLegal_of_nil rfl
  | sample cv irq =>
    exact ⟨clearCmds (wrapOf cv irq s).clear, [], by simp, by simpa using clearCmds_legal cv irq s, .inl rfl⟩
  | tick start stop lap clear mode cv irq =>
    obtain ⟨back, htcmd, hback⟩ :=
      eventPhase_tcmd (selectEvent start stop lap clear) (samplePhase cv irq (beginOp s))
    have hfront := samplePhase_tcmd_legal cv irq (beginOp_tcmd s)
    exact ⟨_, back, by simpa using htcmd, by simpa using hfront, by simpa using hback⟩

theorem exec_accumulatorConsistent (h : exec i s = .next t) (hs : AccumulatorConsistent s) :
    AccumulatorConsistent t := by
  cases effect_of_exec h with
  | sample => exact accumulatorConsistent_writeOperr (accumulatorConsistent_sampleBody ..) _
  | tick start stop lap clear mode cv irq =>
    have hbegin : AccumulatorConsistent (beginOp s) := hs.of_same ⟨rfl, rfl, rfl, rfl⟩ rfl
    have hevent := accumulatorConsistent_eventPhase (selectEvent start stop lap clear)
      (accumulatorConsistent_samplePhase cv irq hbegin)
    have hout := accumulatorConsistent_outputPhase hevent mode
    exact accumulatorConsistent_writeOperr hout false
  | nop | fmt | enc => exact hs.of_same (exec_sameAccumulator h nofun nofun).1 (exec_sameFixed h).cfg

theorem exec_dispConsistent (h : exec i s = .next t) (hs : DispConsistent s) : DispConsistent t := by
  cases effect_of_exec h with
  | tick start stop lap clear mode cv irq =>
    have hout := dispConsistent_outputPhase
      (eventPhase (selectEvent start stop lap clear) (samplePhase cv irq (beginOp s))) mode
    exact dispConsistent_writeOperr hout false
  | nop | sample | fmt | enc => exact hs.of_same (exec_sameController h nofun).2 (exec_sameFixed h).cfg

theorem exec_inv (h : exec i s = .next t) (hs : Inv s) : Inv t where
  format := exec_formatConsistent h hs.format
  display := exec_displayConsistent h hs.display
  commands := exec_commandsLegal h
  accumulator := exec_accumulatorConsistent h hs.accumulator
  disp := exec_dispConsistent h hs.disp

end operations

/-! ### Reset, the reserved codes, and the step -/

section step

variable {s : State}

/-- The invariant does not speak of the host's sequence. -/
theorem Inv.withIssues (hs : Inv s) (rest : List Ports) : Inv { s with issues := rest } where
  format := hs.format.of_same ⟨rfl, rfl, rfl, rfl⟩
  display := hs.display.of_same ⟨rfl, rfl, rfl, rfl⟩ rfl
  commands := hs.commands.of_same rfl rfl
  accumulator := hs.accumulator.of_same ⟨rfl, rfl, rfl, rfl⟩ rfl
  disp := hs.disp.of_same rfl rfl

/-- The reset values have the invariant, whatever the state before (R361). -/
theorem inv_applyReset (s : State) : Inv (applyReset s) where
  format := ⟨by simp, by simp, by simp, by simp⟩
  display := ⟨by simp, by simp, by simp, by simp, by simpa using blankPattern_dpClear⟩
  commands := commandsLegal_of_nil rfl
  accumulator := .inr rfl
  disp := fun _ => by simp

theorem inv_beginOp (hs : Inv s) : Inv (beginOp s) where
  format := hs.format.of_same ⟨rfl, rfl, rfl, rfl⟩
  display := hs.display.of_same ⟨rfl, rfl, rfl, rfl⟩ rfl
  commands := commandsLegal_of_nil rfl
  accumulator := hs.accumulator.of_same ⟨rfl, rfl, rfl, rfl⟩ rfl
  disp := hs.disp.of_same rfl rfl

theorem inv_writeOperr (hs : Inv s) (b : Bool) : Inv (writeOperr b s) where
  format := formatConsistent_writeOperr hs.format b
  display := displayConsistent_writeOperr hs.display b
  commands := hs.commands.of_same rfl rfl
  accumulator := accumulatorConsistent_writeOperr hs.accumulator b
  disp := dispConsistent_writeOperr hs.disp b

/-- A reserved code writes OPERR and the command list alone (R104). -/
theorem inv_execReserved (hs : Inv s) : Inv (execReserved s) := inv_writeOperr (inv_beginOp hs) true

/-- Settles O47: a step holds everything, resets, runs an operation or meets a reserved code, and each keeps the
invariant. -/
theorem everyStepKeepsTheInvariant : Obligations.EveryStepKeepsTheInvariant := by
  unfold Obligations.EveryStepKeepsTheInvariant
  intro s t hs h
  obtain ⟨-, rfl⟩ | ⟨p, rest, -, ⟨-, rfl⟩ | ⟨-, i, -, hexec⟩ | ⟨-, -, rfl⟩⟩ := step_cases s t h
  · exact hs
  · exact inv_applyReset _
  · exact exec_inv hexec (hs.withIssues rest)
  · exact inv_execReserved (hs.withIssues rest)

end step

end Sys2Proof.Machine
end

section
/-! The packed display words (spec/20_memory.md, R81): the position of a slot in its word is the width of the fields
below it. -/

namespace Sys2Proof.Machine

section displayWords

/-- Each further slot moves those already packed up by one byte. -/
theorem hexLo_toNat (s : State) :
    (hexLo s).toNat =
      s.seg[0].toNat + 2 ^ 8 * s.seg[1].toNat + 2 ^ 16 * s.seg[2].toNat + 2 ^ 24 * s.seg[3].toNat := by
  simp only [hexLo, append_toNat]
  omega

/-- The upper half adds nothing. -/
theorem hexHi_toNat (s : State) : (hexHi s).toNat = s.seg[4].toNat + 2 ^ 8 * s.seg[5].toNat := by
  have hupper : (0#16).toNat = 0 := rfl
  simp only [hexHi, append_toNat, hupper]
  omega

/-- Settles O40: the output ports show the two packed words. -/
theorem displayWordsPackTheSlots : Obligations.DisplayWordsPackTheSlots := by
  unfold Obligations.DisplayWordsPackTheSlots
  exact fun s => ⟨hexLo_toNat s, hexHi_toNat s⟩

end displayWords

end Sys2Proof.Machine
end

section
/-! The encoding (spec/30_encoding.md): the decoder has one equation per row of R101 and one for the reserved codes, and
these eight codes are all there are; the encoder, the assembly lines and the step are read through those equations. -/

namespace Sys2Proof.Machine

/-! ### The decoder and the encoder (R101, R102, R106) -/

section decoder

variable {p : Ports} {i : Instr}

theorem decode_of_op_nop (h : p.op = 0b000#3) : decode p = .operation .nop := by simp [decode, h]

theorem decode_of_op_sample (h : p.op = 0b001#3) : decode p = .operation (.sample p.cv p.irq) := by simp [decode, h]

theorem decode_of_op_fmt (h : p.op = 0b010#3) : decode p = .operation (.fmt p.value) := by simp [decode, h]

theorem decode_of_op_tick (h : p.op = 0b011#3) :
    decode p = .operation (.tick p.btn_start p.btn_stop p.btn_lap p.btn_clear p.mode p.cv p.irq) := by
  simp [decode, h]

theorem decode_of_op_enc (h : p.op = 0b100#3) : decode p = .operation (.enc p.value) := by simp [decode, h]

/-- A 3-bit code is one of the five of R101 or a reserved one. -/
theorem op_cases (c : BitVec 3) :
    c = 0b000#3 ∨ c = 0b001#3 ∨ c = 0b010#3 ∨ c = 0b011#3 ∨ c = 0b100#3 ∨ 0b101#3 ≤ c := by
  revert c; decide

theorem decode_of_op_reserved (h : 0b101#3 ≤ p.op) : decode p = .reserved p.op := by
  have hop : p.op = 0b101#3 ∨ p.op = 0b110#3 ∨ p.op = 0b111#3 := by
    generalize p.op = c at h
    revert c; decide
  obtain h5 | h6 | h7 := hop
  · simp [decode, h5]
  · simp [decode, h6]
  · simp [decode, h7]

/-- R102: the code of an operation together with the levels of its own ports decodes to it. -/
theorem decode_of_operandsFrom (hop : p.op = i.opcode) (hargs : OperandsFrom p i) : decode p = .operation i := by
  cases i with
  | nop => exact decode_of_op_nop hop
  | sample cv irq =>
    obtain ⟨rfl, rfl⟩ := hargs
    exact decode_of_op_sample hop
  | fmt value =>
    obtain rfl := hargs
    exact decode_of_op_fmt hop
  | tick start stop lap clear mode cv irq =>
    obtain ⟨rfl, rfl, rfl, rfl, rfl, rfl, rfl⟩ := hargs
    exact decode_of_op_tick hop
  | enc value =>
    obtain rfl := hargs
    exact decode_of_op_enc hop

/-- R106: nothing else decodes to it, because each code has one row. -/
theorem operandsFrom_of_decode (h : decode p = .operation i) : p.op = i.opcode ∧ OperandsFrom p i := by
  obtain hop | hop | hop | hop | hop | hop := op_cases p.op
  · cases (decode_of_op_nop hop).symm.trans h
    exact ⟨hop, trivial⟩
  · cases (decode_of_op_sample hop).symm.trans h
    exact ⟨hop, rfl, rfl⟩
  · cases (decode_of_op_fmt hop).symm.trans h
    exact ⟨hop, rfl⟩
  · cases (decode_of_op_tick hop).symm.trans h
    exact ⟨hop, rfl, rfl, rfl, rfl, rfl, rfl, rfl⟩
  · cases (decode_of_op_enc hop).symm.trans h
    exact ⟨hop, rfl⟩
  · cases (decode_of_op_reserved hop).symm.trans h

theorem decode_eq_operation_iff : decode p = .operation i ↔ p.op = i.opcode ∧ OperandsFrom p i :=
  ⟨operandsFrom_of_decode, fun ⟨hop, hargs⟩ => decode_of_operandsFrom hop hargs⟩

@[simp] theorem encode_op (i : Instr) : (encode i).op = i.opcode := by cases i <;> rfl

@[simp] theorem encode_rst (i : Instr) : (encode i).rst = false := by cases i <;> rfl

/-- R107: the encoder drives each operand on its own port. -/
theorem operandsFrom_encode (i : Instr) : OperandsFrom (encode i) i := by
  cases i <;> simp [OperandsFrom, encode]

@[simp] theorem decode_encode (i : Instr) : decode (encode i) = .operation i :=
  decode_of_operandsFrom (encode_op i) (operandsFrom_encode i)

end decoder

/-- Settles O1: the rows of the decoder, with `decode_encode` for the encoder. -/
theorem decodeAndEncodeAgree : Obligations.DecodeAndEncodeAgree := by
  unfold Obligations.DecodeAndEncodeAgree
  exact ⟨fun i => ⟨decode_encode i, encode_rst i⟩, fun _ => decode_of_op_nop, fun _ => decode_of_op_sample,
    fun _ => decode_of_op_fmt, fun _ => decode_of_op_tick, fun _ => decode_of_op_enc, fun _ => decode_of_op_reserved⟩

/-- Settles O2: each code has one row, and a row reads its own ports. -/
theorem decodingReadsOnlyTheListedPorts : Obligations.DecodingReadsOnlyTheListedPorts := by
  unfold Obligations.DecodingReadsOnlyTheListedPorts
  exact fun _ _ => decode_eq_operation_iff

/-! ### The words of the opcode table (R100) -/

section table

variable {nbits w : Nat}

theorem decodeTableWord_of_operation {i : Instr} (h : decode (tablePorts nbits w) = .operation i) :
    decodeTableWord nbits w = some i := by
  simp [decodeTableWord, h]

theorem decodeTableWord_of_reserved (h : 0b101#3 ≤ (tablePorts nbits w).op) : decodeTableWord nbits w = none := by
  simp [decodeTableWord, decode_of_op_reserved h]

end table

/-- Settles O3: each word through its row of the decoder, with every operand port at 0. -/
theorem tableWordsDecode : Obligations.TableWordsDecode := by
  unfold Obligations.TableWordsDecode
  exact ⟨decodeTableWord_of_operation (decode_of_op_nop rfl), decodeTableWord_of_operation (decode_of_op_sample rfl),
    decodeTableWord_of_operation (decode_of_op_fmt rfl), decodeTableWord_of_operation (decode_of_op_tick rfl),
    decodeTableWord_of_operation (decode_of_op_enc rfl), decodeTableWord_of_reserved (by decide),
    decodeTableWord_of_reserved (by decide), decodeTableWord_of_reserved (by decide)⟩

/-! ### Assembly lines (R107, R108) -/

section assembly

theorem toNat_ofNat_of_u32Operand {n : Nat} (h : u32Operand n = true) : (BitVec.ofNat 32 n).toNat = n :=
  toNat_ofNat_of_lt (of_decide_eq_true h)

theorem toNat_bitLevel {n : Nat} (h : bitOperand n = true) : (bitLevel n).toNat = n := by
  have hn : n ≤ 1 := of_decide_eq_true h
  interval_cases n <;> rfl

theorem toInt_encOperandBits_dec {n : Int} (h : (EncOperand.dec n).wellFormed = true) :
    (encOperandBits (.dec n)).toInt = n := by
  obtain ⟨hlo, hhi⟩ : -2 ^ 31 ≤ n ∧ n ≤ 2 ^ 31 - 1 := of_decide_eq_true h
  rw [encOperandBits, BitVec.toInt_ofInt]
  exact Int.bmod_eq_of_le (by omega) (by omega)

theorem toNat_encOperandBits_hex {n : Nat} (h : (EncOperand.hex n).wellFormed = true) :
    (encOperandBits (.hex n)).toNat = n :=
  toNat_ofNat_of_lt (of_decide_eq_true h)

theorem assemble_of_wellFormed {l : Line} (h : l.wellFormed = true) : assemble l = some (encode (lineInstr l)) :=
  if_pos h

end assembly

/-- Settles O4: the ports of a line decode to the operation it stands for (`decode_encode`), and each number in range
survives the width of its port. -/
theorem assemblyLinesMeanTheirNumbers : Obligations.AssemblyLinesMeanTheirNumbers := by
  unfold Obligations.AssemblyLinesMeanTheirNumbers
  intro l h
  refine ⟨encode (lineInstr l), lineInstr l, assemble_of_wellFormed h, encode_rst _, decode_encode _, ?_⟩
  cases l with
  | nop => rfl
  | sample cv irq =>
    obtain ⟨hcv, hirq⟩ := Bool.and_eq_true_iff.1 h
    exact ⟨_, _, rfl, toNat_ofNat_of_u32Operand hcv, toNat_bitLevel hirq⟩
  | fmt value => exact ⟨_, rfl, toNat_ofNat_of_u32Operand h⟩
  | enc value =>
    cases value with
    | dec n => exact ⟨_, rfl, toInt_encOperandBits_dec h⟩
    | hex n => exact ⟨_, rfl, toNat_encOperandBits_hex h⟩
  | tick buttons mode cv irq =>
    obtain ⟨hmode_cv, hirq⟩ := Bool.and_eq_true_iff.1 h
    obtain ⟨hmode, hcv⟩ := Bool.and_eq_true_iff.1 hmode_cv
    exact ⟨_, _, _, _, _, _, _, rfl, decide_eq_true_iff, decide_eq_true_iff, decide_eq_true_iff, decide_eq_true_iff,
      toNat_bitLevel hmode, toNat_ofNat_of_u32Operand hcv, toNat_bitLevel hirq⟩
  | start cv => exact ⟨_, rfl, toNat_ofNat_of_u32Operand h⟩
  | stop cv irq | lap cv irq =>
    obtain ⟨hcv, hirq⟩ := Bool.and_eq_true_iff.1 h
    exact ⟨_, _, rfl, toNat_ofNat_of_u32Operand hcv, toNat_bitLevel hirq⟩
  | clear => rfl
  | poll cv irq mode =>
    obtain ⟨hcv_irq, hmode⟩ := Bool.and_eq_true_iff.1 h
    obtain ⟨hcv, hirq⟩ := Bool.and_eq_true_iff.1 hcv_irq
    exact ⟨_, _, _, rfl, toNat_bitLevel hmode, toNat_ofNat_of_u32Operand hcv, toNat_bitLevel hirq⟩

/-! ### The step (R100, R104, R380) -/

section step

variable {s : State} {p : Ports} {rest : List Ports}

theorem step_of_no_issue (h : s.issues = []) : step s = .next s := by
  simp [step, stepIssue, nextIssue, h]

theorem step_of_issue (h : s.issues = p :: rest) : step s = cycle p { s with issues := rest } := by
  simp [step, stepIssue, nextIssue, h]

theorem cycle_of_operation {i : Instr} (hrst : p.rst = false) (h : decode p = .operation i) (s : State) :
    cycle p s = exec i s := by
  simp [cycle, hrst, h]

theorem cycle_of_reserved (hrst : p.rst = false) (h : 0b101#3 ≤ p.op) (s : State) :
    cycle p s = .next (execReserved s) := by
  simp [cycle, hrst, decode_of_op_reserved h]

/-- R320: no operation faults or is refused. -/
theorem exec_completes (i : Instr) (s : State) : ∃ t, exec i s = .next t := by
  cases i <;> exact ⟨_, rfl⟩

end step

/-- Settles O5: the step takes the issue, and its clock edge runs the operation. -/
theorem stepRunsTheIssuedOperation : Obligations.StepRunsTheIssuedOperation := by
  unfold Obligations.StepRunsTheIssuedOperation
  intro s p rest i hissue hrst hdec
  exact (step_of_issue hissue).trans (cycle_of_operation hrst hdec _)

/-- Settles O6: there is no clock edge to perform. -/
theorem stepWithoutAnIssueHoldsEverything : Obligations.StepWithoutAnIssueHoldsEverything := by
  unfold Obligations.StepWithoutAnIssueHoldsEverything
  exact fun _ => step_of_no_issue

/-- Settles O7: a reserved code's write is that of OPERR alone (`execReserved_eq`), and the operations follow the OPERR
column of the write matrix (`exec_operr`). -/
theorem reservedCodeSetsOperrAndNothingElse : Obligations.ReservedCodeSetsOperrAndNothingElse := by
  unfold Obligations.ReservedCodeSetsOperrAndNothingElse
  constructor
  · intro s p rest hissue hrst hop
    refine ⟨Flags.setOperr true s.flags, ?_, Flags.operr_setOperr .., Flags.neg_setOperr .., Flags.rng_setOperr ..,
      Flags.serr_setOperr .., Flags.wrap_setOperr ..⟩
    rw [step_of_issue hissue, cycle_of_reserved hrst hop, execReserved_eq]
  · intro i s
    obtain ⟨t, h⟩ := exec_completes i s
    have hoperr := exec_operr h
    exact ⟨t, h, fun hi => by simpa [hi] using hoperr, fun hi => by simpa [hi] using hoperr⟩

end Sys2Proof.Machine
end

section
/-! The accumulator and the formatter (spec/40_accumulator.md): the whole effect of SAMPLE and of FMT, what the three
fields of FMT keep of the count, and the wrap property over a run of samples. -/

namespace Sys2Proof.Machine

/-! ### FMT (R150, R151, R152) -/

section formatter

variable {s t : State} {value : U32}

/-- Each `fmt_*` register is wide enough for its result of the formatter. -/
theorem writeFormat_format_toNat (e : Nat) (s : State) :
    (writeFormat (format e) s).fmt_mm.toNat = (format e).mm ∧
      (writeFormat (format e) s).fmt_ss.toNat = (format e).ss ∧
      (writeFormat (format e) s).fmt_hh.toNat = (format e).hh ∧
      (writeFormat (format e) s).fmt_mmsshh.toNat = (format e).mmsshh := by
  obtain ⟨hmm, hss, hhh, -, hmax⟩ := format_ranges e
  exact ⟨toNat_ofNat_of_lt (by omega), toNat_ofNat_of_lt (by omega), toNat_ofNat_of_lt (by omega),
    toNat_ofNat_of_lt (by omega)⟩

/-- Minutes, seconds and hundredths are the count modulo 100 minutes. -/
theorem format_recombine (e : Nat) : (format e).mm * 6000 + (format e).ss * 100 + (format e).hh = e % 600000 := by
  simp only [format]
  omega

/-- FMT shows the results of the formatter for its operand, read as unsigned. -/
theorem exec_fmt_toNat (h : exec (.fmt value) s = .next t) :
    t.fmt_mm.toNat = (format value.toNat).mm ∧ t.fmt_ss.toNat = (format value.toNat).ss ∧
      t.fmt_hh.toNat = (format value.toNat).hh ∧ t.fmt_mmsshh.toNat = (format value.toNat).mmsshh := by
  cases effect_of_exec h
  exact writeFormat_format_toNat value.toNat (beginOp s)

end formatter

/-- Settles O16: the registers hold the formatter's results (`exec_fmt_toNat`), and the frame is FMT's row of the write
matrix. -/
theorem fmtSplitsHundredths : Obligations.FmtSplitsHundredths := by
  unfold Obligations.FmtSplitsHundredths
  intro s value
  obtain ⟨t, h⟩ := exec_completes (.fmt value) s
  obtain ⟨hmm, hss, hhh, hpack⟩ := exec_fmt_toNat h
  obtain ⟨hctl, hdisp⟩ := exec_sameController h (by simp [NotTick])
  obtain ⟨hacc, hwrap, htcmd⟩ := exec_sameAccumulator h (by simp [NotTick]) (by simp [NotSample])
  exact ⟨t, h, hmm, hss, hhh, hpack, by simpa using exec_operr h, htcmd, exec_sameFixed h, hctl, hacc, hdisp,
    exec_sameEncoding h (by simp [NotTick]) (by simp [NotEnc]), hwrap⟩

/-- Settles O17: the fields in the registers recombine as those of the formatter do. -/
theorem fmtFieldsRecombine : Obligations.FmtFieldsRecombine := by
  unfold Obligations.FmtFieldsRecombine
  intro s t value h
  obtain ⟨hmm, hss, hhh, -⟩ := exec_fmt_toNat h
  rw [hmm, hss, hhh, format_recombine]

/-! ### SAMPLE (R143 to R147) -/

section sample

variable {s t : State} {cv : U32} {irq : Bool}

/-- The registers SAMPLE writes, in the arithmetic of their widths, by what wrap detection decided. -/
theorem exec_sample_accumulator (h : exec (.sample cv irq) s = .next t) :
    t.ovf_count = s.ovf_count + (if (wrapOf cv irq s).wrap then 1 else 0) ∧
      t.acc_ticks = s.acc_ticks + cv.zeroExtend 64 - (if (wrapOf cv irq s).wrap then 0 else s.last.zeroExtend 64) ∧
      t.last = cv ∧ t.elapsed = elapsedHundredths s.cfg.toConfig cv t.ovf_count ∧
      Flags.wrap t.flags = (wrapOf cv irq s).wrap := by
  cases effect_of_exec h
  exact ⟨by simp [countWrap_eq_add], by simp [accTicks_eq], by simp, by simp, by simp⟩

theorem clearCmds_eq_ite (b : Bool) : clearCmds b = if b = true then [.clrirq] else [] := by cases b <;> rfl

/-- SAMPLE's one command: CLRIRQ, for an interrupt that wrap detection has read. -/
theorem exec_sample_tcmd (h : exec (.sample cv irq) s = .next t) :
    t.tcmd = if irq = true ∧ s.cfg.wrapDetect ≠ .compare then [.clrirq] else [] := by
  cases effect_of_exec h
  simp [wrapOf, detectWrap_clear, clearCmds_eq_ite]

theorem wrapOf_wrap_of_irq (h : s.cfg.wrapDetect = .irq) : (wrapOf cv irq s).wrap = irq := by
  simp [wrapOf, h, detectWrap_irq]

theorem wrapOf_wrap_iff_of_compare (h : s.cfg.wrapDetect = .compare) :
    (wrapOf cv irq s).wrap = true ↔ s.last < cv := by
  simp [wrapOf, h, detectWrap_compare, BitVec.lt_def]

theorem wrapOf_wrap_iff_of_combined (h : s.cfg.wrapDetect = .combined) :
    (wrapOf cv irq s).wrap = true ↔ irq = true ∨ s.last < cv := by
  simp [wrapOf, h, detectWrap_combined, BitVec.lt_def]

/-- With no interrupt signalled, COMPARE and COMBINED decide alike: a wrap is a rise of the count. -/
theorem wrapOf_wrap_iff_of_quiet (h : s.cfg.wrapDetect ≠ .irq) : (wrapOf cv false s).wrap = true ↔ s.last < cv := by
  cases hm : s.cfg.wrapDetect with
  | irq => exact absurd hm h
  | compare => exact wrapOf_wrap_iff_of_compare hm
  | combined => simpa using wrapOf_wrap_iff_of_combined (cv := cv) (irq := false) hm

end sample

/-- Settles O15: in each mode the hypothesis pins what wrap detection decides, and the rest is the effect of SAMPLE for
that decision and its row of the write matrix. -/
theorem sampleCountsAndAccumulates : Obligations.SampleCountsAndAccumulates := by
  unfold Obligations.SampleCountsAndAccumulates
  intro s cv irq wrap hwrap
  have hdecided : (wrapOf cv irq s).wrap = wrap := by
    cases hm : s.cfg.wrapDetect with
    | irq =>
      simp only [hm] at hwrap
      rw [hwrap, wrapOf_wrap_of_irq hm]
    | compare =>
      simp only [hm] at hwrap
      exact Bool.eq_iff_iff.2 ((wrapOf_wrap_iff_of_compare hm).trans hwrap.symm)
    | combined =>
      simp only [hm] at hwrap
      exact Bool.eq_iff_iff.2 ((wrapOf_wrap_iff_of_combined hm).trans hwrap.symm)
  obtain ⟨t, h⟩ := exec_completes (.sample cv irq) s
  obtain ⟨hovf, hacc, hlast, helapsed, hflag⟩ := exec_sample_accumulator h
  obtain ⟨hctl, hdisp⟩ := exec_sameController h (by simp [NotTick])
  rw [hdecided] at hovf hacc hflag
  exact ⟨t, h, hovf, hacc, hlast, by rw [helapsed, elapsedHundredths_toNat], hflag, by simpa using exec_operr h,
    exec_sample_tcmd h, exec_sameFixed h, hctl, exec_sameFormat h (by simp [NotTick]) (by simp [NotFmt]), hdisp,
    exec_sameEncoding h (by simp [NotTick]) (by simp [NotEnc])⟩

/-! ### The elapsed hundredths where no register wraps around (R145, R154) -/

section elapsed

variable {c : Config} {cv cv' m n : U32}

/-- The hundredths a sample `cv` stands for after `n` counted wraps, before R145 reduces them to 32 bits. -/
def countedHundredths (c : Config) (cv n : Nat) : Nat :=
  (c.load.toNat - cv) / ticksPerHundredth c + n * hundredthsPerWrap c

theorem elapsedHundredths_toNat_mod :
    (elapsedHundredths c cv n).toNat = countedHundredths c cv.toNat n.toNat % 2 ^ 32 :=
  BitVec.toNat_ofNat ..

/-- Whatever the sample, less than one more wrap is credited. -/
theorem countedHundredths_le (c : Config) (cv n : Nat) :
    countedHundredths c cv n ≤ (n + 1) * hundredthsPerWrap c := by
  have h : (c.load.toNat - cv) / ticksPerHundredth c ≤ hundredthsPerWrap c := Nat.div_le_div_right (Nat.sub_le ..)
  unfold countedHundredths
  rw [Nat.succ_mul]
  omega

/-- A later sample of the same period stands for no fewer hundredths. -/
theorem countedHundredths_antitone {a b : Nat} (h : b ≤ a) (n : Nat) :
    countedHundredths c a n ≤ countedHundredths c b n :=
  Nat.add_le_add_right (Nat.div_le_div_right (by omega)) _

/-- A sample after one more wrap stands for no fewer hundredths, wherever in its period it lies. -/
theorem countedHundredths_le_succ (a b n : Nat) : countedHundredths c a n ≤ countedHundredths c b (n + 1) :=
  (countedHundredths_le c a n).trans (Nat.le_add_left ..)

/-- `elapsed` keeps the order of the hundredths, unless it wraps around. -/
theorem elapsedHundredths_le
    (hle : countedHundredths c cv.toNat m.toNat ≤ countedHundredths c cv'.toNat n.toNat)
    (hlt : countedHundredths c cv'.toNat n.toNat < 2 ^ 32) :
    elapsedHundredths c cv m ≤ elapsedHundredths c cv' n := by
  rw [BitVec.le_def, elapsedHundredths_toNat_mod, elapsedHundredths_toNat_mod, Nat.mod_eq_of_lt hlt,
    Nat.mod_eq_of_lt (hle.trans_lt hlt)]
  exact hle

end elapsed

/-! ### Runs of quiet samples (R154) -/

section quiet

variable {s : State} {cv : U32} {cvs : List U32} {rest : List Ports}

/-- The state after the next issue, where that is a SAMPLE of `cv` with no interrupt signalled. -/
def quietSampled (s : State) (cv : U32) : State :=
  writeOperr false (sampleBody cv false (beginOp { s with issues := s.issues.tail }))

/-- The state after the next issues, where these are such samples of `cvs`. -/
def quietlySampled (s : State) (cvs : List U32) : State := cvs.foldl quietSampled s

theorem step_quietSample (h : s.issues = quietSample cv :: rest) : step s = .next (quietSampled s cv) := by
  rw [step_of_issue h, quietSample, cycle_of_operation (encode_rst _) (decode_encode _), exec_sample, quietSampled, h,
    List.tail_cons]

@[simp] theorem quietSampled_issues : (quietSampled s cv).issues = s.issues.tail := by simp [quietSampled]

@[simp] theorem quietSampled_cfg : (quietSampled s cv).cfg = s.cfg := by simp [quietSampled]

@[simp] theorem quietSampled_last : (quietSampled s cv).last = cv := by simp [quietSampled]

/-- After a sample, `elapsed` is computed from `last` and `ovf_count` (R155). -/
theorem quietSampled_elapsed :
    (quietSampled s cv).elapsed = elapsedHundredths s.cfg.toConfig cv (quietSampled s cv).ovf_count := by
  simp [quietSampled]

theorem quietSampled_ovf_count (hmode : s.cfg.wrapDetect ≠ .irq) :
    (quietSampled s cv).ovf_count = s.ovf_count + (if s.last < cv then 1 else 0) := by
  have hwrap := wrapOf_wrap_iff_of_quiet (cv := cv) (s := { s with issues := s.issues.tail }) hmode
  simp [quietSampled, countWrap_eq_add, hwrap]

theorem quietSampled_ovf_count_of_le (hmode : s.cfg.wrapDetect ≠ .irq) (h : cv ≤ s.last) :
    (quietSampled s cv).ovf_count = s.ovf_count := by
  simp [quietSampled_ovf_count hmode, BitVec.not_lt.2 h]

theorem quietSampled_ovf_count_of_lt (hmode : s.cfg.wrapDetect ≠ .irq) (h : s.last < cv)
    (hmax : s.ovf_count.toNat + 1 < 2 ^ 32) : (quietSampled s cv).ovf_count.toNat = s.ovf_count.toNat + 1 := by
  rw [quietSampled_ovf_count hmode, if_pos h]
  bv_omega

/-- From a sample to the next `elapsed` does not fall, where neither it nor `ovf_count` wraps around. -/
theorem elapsed_le_quietSampled_elapsed (hmode : s.cfg.wrapDetect ≠ .irq)
    (hs : s.elapsed = elapsedHundredths s.cfg.toConfig s.last s.ovf_count) (hmax : s.ovf_count.toNat + 1 < 2 ^ 32)
    (hlt : countedHundredths s.cfg.toConfig cv.toNat (quietSampled s cv).ovf_count.toNat < 2 ^ 32) :
    s.elapsed ≤ (quietSampled s cv).elapsed := by
  rw [hs, quietSampled_elapsed]
  refine elapsedHundredths_le ?_ hlt
  by_cases h : s.last < cv
  · rw [quietSampled_ovf_count_of_lt hmode h hmax]
    exact countedHundredths_le_succ ..
  · have hcv : cv ≤ s.last := BitVec.not_lt.1 h
    rw [quietSampled_ovf_count_of_le hmode hcv]
    exact countedHundredths_antitone (BitVec.le_def.1 hcv) _

theorem quietlySampled_concat (s : State) (cvs : List U32) (cv : U32) :
    quietlySampled s (cvs ++ [cv]) = quietSampled (quietlySampled s cvs) cv := by
  simp [quietlySampled]

theorem core_run_quietSamples (h : s.issues = cvs.map quietSample ++ rest) :
    Sys2Proof.core.run cvs.length s = .next (quietlySampled s cvs) := by
  induction cvs generalizing s with
  | nil => rfl
  | cons cv cvs ih =>
    rw [List.length_cons, core_run_succ _ _ _ (step_quietSample h)]
    exact ih (by simp [h])

/-- The run stopped after `k` of the samples. -/
theorem core_run_quietSamples_take {k : Nat} (h : s.issues = cvs.map quietSample) (hk : k ≤ cvs.length) :
    Sys2Proof.core.run k s = .next (quietlySampled s (cvs.take k)) := by
  have hsplit : s.issues = (cvs.take k).map quietSample ++ (cvs.drop k).map quietSample := by
    rw [h, ← List.map_append, List.take_append_drop]
  simpa [hk] using core_run_quietSamples hsplit

theorem quietlySampled_cfg (s : State) (cvs : List U32) : (quietlySampled s cvs).cfg = s.cfg := by
  induction cvs generalizing s with
  | nil => rfl
  | cons cv cvs ih => exact (ih _).trans quietSampled_cfg

theorem quietlySampled_last (s : State) (cvs : List U32) : (quietlySampled s cvs).last = cvs.getLastD s.last := by
  induction cvs using List.reverseRecOn with
  | nil => rfl
  | append_singleton cvs cv _ => simp [quietlySampled_concat]

theorem quietlySampled_elapsed (hne : cvs ≠ []) :
    (quietlySampled s cvs).elapsed =
      elapsedHundredths s.cfg.toConfig (quietlySampled s cvs).last (quietlySampled s cvs).ovf_count := by
  obtain ⟨before, cv, rfl⟩ := (List.eq_nil_or_concat' cvs).resolve_left hne
  rw [quietlySampled_concat, quietSampled_elapsed, quietSampled_last, quietlySampled_cfg]

/-- Samples that never increase count no wrap. -/
theorem quietlySampled_ovf_count_of_descent (hmode : s.cfg.wrapDetect ≠ .irq)
    (h : (s.last :: cvs).IsChain fun a b => b ≤ a) : (quietlySampled s cvs).ovf_count = s.ovf_count := by
  induction cvs generalizing s with
  | nil => rfl
  | cons cv cvs ih =>
    obtain ⟨hcv, hrest⟩ := List.isChain_cons_cons.1 h
    have htail : (quietlySampled (quietSampled s cv) cvs).ovf_count = (quietSampled s cv).ovf_count :=
      ih (by simpa using hmode) (by simpa using hrest)
    exact htail.trans (quietSampled_ovf_count_of_le hmode hcv)

section rise

variable {k : Nat} (hmode : s.cfg.wrapDetect ≠ .irq) (hdescent : (s.last :: cvs).IsChain fun a b => b ≤ a)
  (hrise : cvs.getLastD s.last < cv) (hmax : s.ovf_count.toNat + 1 < 2 ^ 32)

include hmode hdescent hrise hmax

/-- A descent and then a rise count exactly one wrap. -/
theorem quietlySampled_ovf_count_of_rise :
    (quietlySampled s (cvs ++ [cv])).ovf_count.toNat = s.ovf_count.toNat + 1 := by
  have hcount := quietlySampled_ovf_count_of_descent hmode hdescent
  rw [quietlySampled_concat, quietSampled_ovf_count_of_lt (by rwa [quietlySampled_cfg])
    (by rwa [quietlySampled_last]) (by rwa [hcount]), hcount]

variable (hlt : countedHundredths s.cfg.toConfig cv.toNat (s.ovf_count.toNat + 1) < 2 ^ 32)

include hlt

/-- Before the rise no sample is credited more than the wrap that the rise counts, so the bound on the last sample's
hundredths is one on every sample's. -/
theorem countedHundredths_quietlySampled_lt (hk : k < (cvs ++ [cv]).length) :
    countedHundredths s.cfg.toConfig (cvs ++ [cv])[k].toNat
      (quietlySampled s ((cvs ++ [cv]).take (k + 1))).ovf_count.toNat < 2 ^ 32 := by
  by_cases hbefore : k < cvs.length
  · rw [List.take_append_of_le_length hbefore, quietlySampled_ovf_count_of_descent hmode (hdescent.take (k + 2))]
    exact (countedHundredths_le_succ ..).trans_lt hlt
  · obtain rfl : k = cvs.length := by
      rw [List.length_append, List.length_singleton] at hk
      omega
    rw [List.take_of_length_le (by simp), quietlySampled_ovf_count_of_rise hmode hdescent hrise hmax]
    simpa using hlt

/-- From each sample of the run to the next, `elapsed` does not fall. -/
theorem quietlySampled_elapsed_le_succ (hpos : 1 ≤ k) (hk : k ≤ cvs.length) :
    (quietlySampled s ((cvs ++ [cv]).take k)).elapsed ≤ (quietlySampled s ((cvs ++ [cv]).take (k + 1))).elapsed := by
  have hnext : k < (cvs ++ [cv]).length := by rwa [List.length_append, List.length_singleton, Nat.lt_succ_iff]
  have hbound := countedHundredths_quietlySampled_lt hmode hdescent hrise hmax hlt hnext
  have hcount : (quietlySampled s ((cvs ++ [cv]).take k)).ovf_count = s.ovf_count := by
    rw [List.take_append_of_le_length hk, quietlySampled_ovf_count_of_descent hmode (hdescent.take (k + 1))]
  have hne : (cvs ++ [cv]).take k ≠ [] := List.ne_nil_of_length_pos (by rw [List.length_take]; omega)
  have hcfg := quietlySampled_cfg s ((cvs ++ [cv]).take k)
  rw [← List.take_concat_get' _ _ hnext, quietlySampled_concat] at hbound ⊢
  exact elapsed_le_quietSampled_elapsed (by rwa [hcfg]) (by rw [hcfg, quietlySampled_elapsed hne]) (by rwa [hcount])
    (by rwa [hcfg])

end rise

end quiet

/-- Settles O18: a run of quiet samples is a fold over the samples (`core_run_quietSamples`). Descending samples count
no wrap, by induction over the list, and the rise counts one; `elapsed` cannot fall, since within a period a lower count
stands for more hundredths and a counted wrap credits at least what the period has given. -/
theorem oneWrapIsCountedAcrossADescent : Obligations.OneWrapIsCountedAcrossADescent := by
  unfold Obligations.OneWrapIsCountedAcrossADescent
  intro s cvs cv hmode hlast hissues hdescent hrise _ hmax
  rw [← hlast] at hdescent hrise
  have hlen : (cvs ++ [cv]).length = cvs.length + 1 := List.length_append
  have hrun : ∀ k ≤ cvs.length + 1, Sys2Proof.core.run k s = .next (quietlySampled s ((cvs ++ [cv]).take k)) :=
    fun _ hk => core_run_quietSamples_take hissues (hk.trans_eq hlen.symm)
  refine ⟨⟨_, hrun cvs.length (by omega), ?_⟩, ⟨_, hrun (cvs.length + 1) le_rfl, ?_⟩, fun hlt k hpos hk => ?_⟩
  · rw [List.take_left, quietlySampled_ovf_count_of_descent hmode hdescent]
  · rw [← hlen, List.take_length, quietlySampled_ovf_count_of_rise hmode hdescent hrise hmax]
  · exact ⟨_, _, hrun k (by omega), hrun (k + 1) (by omega),
      quietlySampled_elapsed_le_succ hmode hdescent hrise hmax hlt hpos hk⟩

end Sys2Proof.Machine
end

section
/-! The stopwatch controller (spec/41_controller.md). Every TICK is a sample phase, an event phase and an ending that
shows the result; each has its rules here, and the runs of section 6 go through what they say of one TICK. -/

namespace Sys2Proof.Machine

/-- Settles O14: NOP is `beginOp`, which writes the command list alone. -/
theorem nopWritesNothing : Obligations.NopWritesNothing := by
  unfold Obligations.NopWritesNothing
  intro s
  exact ⟨_, exec_nop s, ⟨rfl, rfl⟩, ⟨rfl, rfl⟩, ⟨rfl, rfl, rfl, rfl⟩, ⟨rfl, rfl, rfl, rfl⟩, rfl, rfl, rfl, rfl⟩

/-! ### The ending of a TICK (R213 to R217) -/

section finishTick

variable (mode : Bool) (s : State)

/-- The output phase and the OPERR write, which end every TICK (R217). -/
def finishTick (mode : Bool) (s : State) : State := writeOperr false (outputPhase mode s)

@[simp] theorem finishTick_cfg : (finishTick mode s).cfg = s.cfg := by simp [finishTick]
@[simp] theorem finishTick_issues : (finishTick mode s).issues = s.issues := by simp [finishTick]
@[simp] theorem finishTick_run : (finishTick mode s).run = s.run := by simp [finishTick]
@[simp] theorem finishTick_lap : (finishTick mode s).lap = s.lap := by simp [finishTick]
@[simp] theorem finishTick_ovf_count : (finishTick mode s).ovf_count = s.ovf_count := by simp [finishTick]
@[simp] theorem finishTick_last : (finishTick mode s).last = s.last := by simp [finishTick]
@[simp] theorem finishTick_acc_ticks : (finishTick mode s).acc_ticks = s.acc_ticks := by simp [finishTick]
@[simp] theorem finishTick_elapsed : (finishTick mode s).elapsed = s.elapsed := by simp [finishTick]
@[simp] theorem finishTick_tcmd : (finishTick mode s).tcmd = s.tcmd := by simp [finishTick]
@[simp] theorem finishTick_wrap : Flags.wrap (finishTick mode s).flags = Flags.wrap s.flags := by simp [finishTick]
@[simp] theorem finishTick_operr : Flags.operr (finishTick mode s).flags = false := by simp [finishTick]

/-- What a TICK shows is the encoder's rendering of its DisplayValue (R216). -/
theorem finishTick_render :
    (finishTick mode s).seg = (render s.cfg.toConfig (displayValue s.cfg.dispFmt (displaySource mode s))).seg ∧
      EncFlags (finishTick mode s) (render s.cfg.toConfig (displayValue s.cfg.dispFmt (displaySource mode s))).neg
        (render s.cfg.toConfig (displayValue s.cfg.dispFmt (displaySource mode s))).rng
        (render s.cfg.toConfig (displayValue s.cfg.dispFmt (displaySource mode s))).serr :=
  ⟨rfl, by simp [finishTick], by simp [finishTick], by simp [finishTick]⟩

/-- Under RAW `disp` is the display source itself (R215). -/
theorem finishTick_disp_of_raw (h : s.cfg.dispFmt = .raw) : (finishTick mode s).disp = displaySource mode s := by
  simp [finishTick, h, displayValue, dispWord, int32]

/-- Under MMSSHH `disp` is the packed time (R215). -/
theorem finishTick_disp_of_mmsshh (h : s.cfg.dispFmt = .mmsshh) :
    (finishTick mode s).disp.toNat = (format (zext (displaySource mode s))).mmsshh := by
  obtain ⟨-, -, -, -, hmax⟩ := format_ranges (zext (displaySource mode s))
  have hdisp : (finishTick mode s).disp = dispWord (displayValue s.cfg.dispFmt (displaySource mode s)) := rfl
  rw [hdisp, h, displayValue, dispWord, BitVec.ofInt_natCast, toNat_ofNat_of_lt (by omega)]

/-- A TICK ends by showing its display source (R214 to R216). -/
theorem finishTick_shows : Shows (finishTick mode s) (displaySource mode s) := by
  obtain ⟨hmm, hss, hhh, hpack⟩ := writeFormat_format_toNat (zext (displaySource mode s)) s
  have hdisp : int32 (finishTick mode s).disp = displayValue s.cfg.dispFmt (displaySource mode s) :=
    dispWord_displayValue ..
  obtain ⟨hseg, hneg, hrng, hserr⟩ := finishTick_render mode s
  exact {
    mm := hmm
    ss := hss
    hh := hhh
    mmsshh := hpack
    disp_mmsshh := fun h => (finishTick_disp_of_mmsshh mode s h).trans hpack.symm
    disp_raw := finishTick_disp_of_raw mode s
    encoded := by
      refine ⟨_, exec_enc _ _, ?_⟩
      rw [hdisp]
      exact ⟨hseg, by simpa using hneg, by simpa using hrng, by simpa using hserr⟩ }

variable {mode : Bool} {s t : State}

/-- The ending reads neither the display registers nor any flag but WRAP, and writes all the rest of them (R56). -/
theorem finishTick_congr (hfix : SameFixed s t) (hctl : SameController s t) (hacc : SameAccumulator s t)
    (htcmd : t.tcmd = s.tcmd) (hwrap : Flags.wrap t.flags = Flags.wrap s.flags) :
    finishTick mode t = finishTick mode s := by
  obtain ⟨hcfg, hissues⟩ := hfix
  obtain ⟨hrun, hlap⟩ := hctl
  obtain ⟨hovf, hlast, hticks, helapsed⟩ := hacc
  have hsrc : displaySource mode t = displaySource mode s := by simp [displaySource, hlap, helapsed]
  ext1
  case flags =>
    exact Flags.eq_of_bits (by simp [finishTick, *]) (by simp [finishTick, *]) (by simp [finishTick, *])
      (by simpa using hwrap) (by simp)
  all_goals simp [finishTick, *]

/-- The ending and a WRAP write change different bits. -/
theorem finishTick_writeWrap (b : Bool) : finishTick mode (writeWrap b s) = writeWrap b (finishTick mode s) := by
  have hsrc : displaySource mode (writeWrap b s) = displaySource mode s := rfl
  ext1
  case flags =>
    exact Flags.eq_of_bits (by simp [finishTick, hsrc]) (by simp [finishTick, hsrc]) (by simp [finishTick, hsrc])
      (by simp) (by simp)
  all_goals simp [finishTick, hsrc]

/-- Writing the WRAP that is there changes nothing. -/
theorem writeWrap_of_wrap {b : Bool} (h : Flags.wrap s.flags = b) : writeWrap b s = s := by
  ext1
  case flags => exact Flags.eq_of_bits (by simp) (by simp) (by simp) (by simp [h]) (by simp)
  all_goals rfl

end finishTick

/-! ### The sample and the event of a TICK (R203 to R212) -/

section phases

variable {s t : State} {e : Event} {start stop lap clear mode : Bool} {cv : U32} {irq : Bool}

/-- The buttons reach a TICK through the event they select, and `mode` through its ending alone. -/
theorem exec_tick_eq (s : State) (start stop lap clear mode : Bool) (cv : U32) (irq : Bool) :
    exec (.tick start stop lap clear mode cv irq) s =
      .next (finishTick mode (eventPhase (selectEvent start stop lap clear) (samplePhase cv irq (beginOp s)))) := rfl

theorem samplePhase_beginOp_of_running (hr : s.run = .running) :
    samplePhase cv irq (beginOp s) = sampleBody cv irq (beginOp s) := samplePhase_running _ _ _ hr

theorem samplePhase_beginOp_of_stopped (hr : s.run = .stopped) :
    samplePhase cv irq (beginOp s) = writeWrap false (beginOp s) := samplePhase_stopped _ _ _ hr

theorem exec_tick_of_running (hr : s.run = .running) :
    exec (.tick start stop lap clear mode cv irq) s =
      .next (finishTick mode (eventPhase (selectEvent start stop lap clear) (sampleBody cv irq (beginOp s)))) := by
  rw [exec_tick_eq, samplePhase_beginOp_of_running hr]

theorem exec_tick_of_stopped (hr : s.run = .stopped) :
    exec (.tick start stop lap clear mode cv irq) s =
      .next (finishTick mode (eventPhase (selectEvent start stop lap clear) (writeWrap false (beginOp s)))) := by
  rw [exec_tick_eq, samplePhase_beginOp_of_stopped hr]

theorem exec_tickFrame (h : exec (.tick start stop lap clear mode cv irq) s = .next t) : TickFrame s t :=
  ⟨exec_sameFixed h, by simpa using exec_operr h⟩

theorem eventPhase_start_of_stopped (hr : s.run = .stopped) : eventPhase .start s = doStart s := by
  simp [eventPhase, hr]

theorem eventPhase_stop_of_running (hr : s.run = .running) : eventPhase .stop s = doStop s := by
  simp [eventPhase, hr]

theorem eventPhase_lap_of_running (hr : s.run = .running) : eventPhase .lap s = doLap s := by
  simp [eventPhase, hr]

theorem eventPhase_clear (s : State) : eventPhase .clear s = doClear s := by simp [eventPhase]

/-- R207, R212: with no event, and for one that `run` makes a no-op, the event phase does nothing. -/
theorem eventPhase_of_ineffective (hclear : e ≠ .clear) (hstart : e = .start → s.run = .running)
    (hstop : e = .stop ∨ e = .lap → s.run = .stopped) : eventPhase e s = s := by
  obtain ⟨he, hr, -⟩ | ⟨he, hr, -⟩ | ⟨he, hr, -⟩ | ⟨he, -⟩ | ⟨-, h⟩ := eventPhase_cases s e
  · simp [hstart he] at hr
  · simp [hstop (.inl he)] at hr
  · simp [hstop (.inr he)] at hr
  · exact absurd he hclear
  · exact h

/-- Of the events only Clear and an effective Start write the accumulator (R208 to R211). -/
theorem eventPhase_sameAccumulator (hclear : e ≠ .clear) (hstart : e = .start → s.run = .running) :
    SameAccumulator s (eventPhase e s) := by
  obtain ⟨he, hr, -⟩ | ⟨-, -, h⟩ | ⟨-, -, h⟩ | ⟨he, -⟩ | ⟨-, h⟩ := eventPhase_cases s e
  · simp [hstart he] at hr
  · exact ⟨by simp [h], by simp [h], by simp [h], by simp [h]⟩
  · exact ⟨by simp [h], by simp [h], by simp [h], by simp [h]⟩
  · exact absurd he hclear
  · exact ⟨by simp [h], by simp [h], by simp [h], by simp [h]⟩

/-- No event clears an interrupt (R205). -/
theorem clrirq_mem_eventPhase_iff : TimerCmd.clrirq ∈ (eventPhase e s).tcmd ↔ TimerCmd.clrirq ∈ s.tcmd := by
  obtain ⟨back, htcmd, rfl | rfl | rfl | rfl | rfl⟩ := eventPhase_tcmd e s <;> simp [htcmd]

theorem selectEvent_ne_clear (start stop lap : Bool) : selectEvent start stop lap false ≠ .clear := by
  simp [Ne, selectEvent_eq_clear_iff]

/-- A TICK without an effective event is its sample and its ending. -/
theorem exec_tick_of_ineffective (hstop : stop = true ∨ lap = true → s.run = .stopped)
    (hstart : start = true → stop = false → lap = false → s.run = .running) :
    exec (.tick start stop lap false mode cv irq) s = .next (finishTick mode (samplePhase cv irq (beginOp s))) := by
  rw [exec_tick_eq, eventPhase_of_ineffective (selectEvent_ne_clear start stop lap)]
  · rw [selectEvent_eq_start_iff, samplePhase_run, beginOp_run]
    exact fun ⟨h1, h2, h3, _⟩ => hstart h1 h2 h3
  · rw [selectEvent_eq_stop_iff, selectEvent_eq_lap_iff, samplePhase_run, beginOp_run]
    exact fun h => hstop (h.imp And.left fun ⟨_, hlap, _⟩ => hlap)

theorem exec_poll (s : State) (mode : Bool) (cv : U32) (irq : Bool) :
    exec (poll mode cv irq) s = .next (finishTick mode (samplePhase cv irq (beginOp s))) :=
  exec_tick_of_ineffective (by simp) (by simp)

theorem exec_tick_clear (s : State) (start stop lap mode : Bool) (cv : U32) (irq : Bool) :
    exec (.tick start stop lap true mode cv irq) s =
      .next (finishTick mode (doClear (samplePhase cv irq (beginOp s)))) := by
  rw [exec_tick_eq, (selectEvent_eq_clear_iff ..).2 rfl, eventPhase_clear]

theorem exec_tick_start_of_stopped (hr : s.run = .stopped) :
    exec (.tick true false false false mode cv irq) s =
      .next (finishTick mode (doStart (writeWrap false (beginOp s)))) := by
  rw [exec_tick_of_stopped hr, (selectEvent_eq_start_iff ..).2 ⟨rfl, rfl, rfl, rfl⟩]
  rw [eventPhase_start_of_stopped (by simpa using hr)]

theorem exec_tick_stop_of_running (hr : s.run = .running) :
    exec (.tick start true lap false mode cv irq) s =
      .next (finishTick mode (doStop (sampleBody cv irq (beginOp s)))) := by
  rw [exec_tick_of_running hr, (selectEvent_eq_stop_iff ..).2 ⟨rfl, rfl⟩,
    eventPhase_stop_of_running (by simpa using hr)]

theorem exec_tick_lap_of_running (hr : s.run = .running) :
    exec (.tick start false true false mode cv irq) s =
      .next (finishTick mode (doLap (sampleBody cv irq (beginOp s)))) := by
  rw [exec_tick_of_running hr, (selectEvent_eq_lap_iff ..).2 ⟨rfl, rfl, rfl⟩,
    eventPhase_lap_of_running (by simpa using hr)]

end phases

/-- Settles O25: while Running the sample phase is SAMPLE's body, and an event writes neither WRAP nor, but for Clear,
the accumulator, and appends its commands. -/
theorem tickSamplesWhileRunning : Obligations.TickSamplesWhileRunning := by
  unfold Obligations.TickSamplesWhileRunning
  intro s start stop lap clear mode cv irq hr
  have htick := exec_tick_of_running (start := start) (stop := stop) (lap := lap) (clear := clear) (mode := mode)
    (cv := cv) (irq := irq) hr
  obtain ⟨back, htcmd, -⟩ := eventPhase_tcmd (selectEvent start stop lap clear) (sampleBody cv irq (beginOp s))
  refine ⟨_, _, exec_sample s cv irq, htick, by simp, ⟨back, by simp [htcmd]⟩, ?_, exec_tickFrame htick⟩
  rintro rfl
  obtain ⟨hovf, hlast, hticks, helapsed⟩ := eventPhase_sameAccumulator (s := sampleBody cv irq (beginOp s))
    (selectEvent_ne_clear start stop lap) fun _ => by simpa using hr
  exact ⟨by simpa using hovf, by simpa using hlast, by simpa using hticks, by simpa using helapsed⟩

/-- Settles O26: while Stopped the sample phase is the WRAP write alone. -/
theorem tickIgnoresTheSampleWhileStopped : Obligations.TickIgnoresTheSampleWhileStopped := by
  unfold Obligations.TickIgnoresTheSampleWhileStopped
  intro s start stop lap clear mode cv cv' irq irq' hr
  have htick := exec_tick_of_stopped (start := start) (stop := stop) (lap := lap) (clear := clear) (mode := mode)
    (cv := cv) (irq := irq) hr
  refine ⟨_, htick, exec_tick_of_stopped hr, by simp, by simp [clrirq_mem_eventPhase_iff], ?_, exec_tickFrame htick⟩
  rintro rfl rfl
  obtain ⟨hovf, hlast, hticks, helapsed⟩ := eventPhase_sameAccumulator (s := writeWrap false (beginOp s))
    (selectEvent_ne_clear false stop lap) fun h => by simp [selectEvent_eq_start_iff] at h
  exact ⟨by simpa using hovf, by simpa using hlast, by simpa using hticks, by simpa using helapsed⟩

/-- Settles O28: the TICK is `doStart` between the WRAP write and the ending. -/
theorem tickStartArmsTheTimer : Obligations.TickStartArmsTheTimer := by
  unfold Obligations.TickStartArmsTheTimer
  intro s mode cv irq hr
  have htick := exec_tick_start_of_stopped (mode := mode) (cv := cv) (irq := irq) hr
  have hshows := finishTick_shows mode (doStart (writeWrap false (beginOp s)))
  exact ⟨_, htick, by simp, by simp, by simp, by simp, by simp, by simp, by simp, by simp, exec_tickFrame htick,
    by simpa [displaySource] using hshows⟩

/-- Settles O29: the TICK is `doStop` between SAMPLE's body and the ending. -/
theorem tickStopDisablesTheTimer : Obligations.TickStopDisablesTheTimer := by
  unfold Obligations.TickStopDisablesTheTimer
  intro s start lap mode cv irq hr
  have htick := exec_tick_stop_of_running (start := start) (lap := lap) (mode := mode) (cv := cv) (irq := irq) hr
  have hshows := finishTick_shows mode (doStop (sampleBody cv irq (beginOp s)))
  exact ⟨_, _, exec_sample s cv irq, htick, by simp, by simp,
    ⟨by simp, by simp, by simp, by simp⟩, by simp, by simp,
    exec_tickFrame htick, by simpa [displaySource] using hshows⟩

/-- Settles O30: the TICK is `doLap` between SAMPLE's body and the ending, and after it both display sources are the
same. -/
theorem tickLapSnapshotsElapsed : Obligations.TickLapSnapshotsElapsed := by
  unfold Obligations.TickLapSnapshotsElapsed
  intro s start mode cv irq hr
  have htick := exec_tick_lap_of_running (start := start) (mode := mode) (cv := cv) (irq := irq) hr
  have hshows := finishTick_shows mode (doLap (sampleBody cv irq (beginOp s)))
  exact ⟨_, _, exec_sample s cv irq, htick, by simp, by simp, by simpa using hr,
    ⟨by simp, by simp, by simp, by simp⟩, by simp,
    exec_tickFrame htick, by simpa [displaySource] using hshows⟩

/-- Settles O31: the TICK is `doClear` between the sample phase and the ending; what the sample phase has written is
overwritten but for WRAP and the commands. -/
theorem tickClearReturnsToZero : Obligations.TickClearReturnsToZero := by
  unfold Obligations.TickClearReturnsToZero
  intro s start stop lap mode cv irq
  have htick := exec_tick_clear s start stop lap mode cv irq
  have hshows := finishTick_shows mode (doClear (samplePhase cv irq (beginOp s)))
  refine ⟨_, htick, rfl, by simp, by simp, by simp, by simp, by simp, exec_tickFrame htick,
    by simpa [displaySource] using hshows, fun hr => ?_, fun hr => ⟨_, exec_sample s cv irq, ?_⟩⟩
  · rw [samplePhase_beginOp_of_stopped hr]
    simp [hr]
  · rw [samplePhase_beginOp_of_running hr]
    simp [hr]

/-- Settles O32: such a TICK and the buttonless one are the same sample and ending (`exec_tick_of_ineffective`). -/
theorem tickWithoutAnEffectiveEventOnlySamples : Obligations.TickWithoutAnEffectiveEventOnlySamples := by
  unfold Obligations.TickWithoutAnEffectiveEventOnlySamples
  intro s start stop lap mode cv irq hstop hstart
  have htick := exec_tick_of_ineffective (mode := mode) (cv := cv) (irq := irq) hstop hstart
  have hshows := finishTick_shows mode (samplePhase cv irq (beginOp s))
  refine ⟨_, htick, exec_poll s mode cv irq, ⟨by simp, by simp⟩, exec_tickFrame htick, fun hr => ?_,
    fun hr => ⟨_, exec_sample s cv irq, ?_⟩⟩
  · rw [samplePhase_beginOp_of_stopped hr] at hshows ⊢
    exact ⟨⟨by simp, by simp, by simp, by simp⟩, by simp, by simpa [displaySource] using hshows⟩
  · rw [samplePhase_beginOp_of_running hr] at hshows ⊢
    exact ⟨⟨by simp, by simp, by simp, by simp⟩, by simp, by simpa [displaySource] using hshows⟩

/-- Settles O33: every TICK ends in `finishTick`, which shows the display source of the state it leaves. -/
theorem tickShowsItsSource : Obligations.TickShowsItsSource := by
  unfold Obligations.TickShowsItsSource
  intro s start stop lap clear mode cv irq
  refine ⟨_, exec_tick_eq .., ?_⟩
  simpa [displaySource] using finishTick_shows mode _

/-- Settles O27: an outranked button does not change the event selected. -/
theorem tickTakesOneEvent : Obligations.TickTakesOneEvent := by
  unfold Obligations.TickTakesOneEvent
  intro s start stop lap clear mode cv irq
  have hclear : selectEvent start stop lap true = selectEvent false false false true := by simp [selectEvent]
  have hstop : selectEvent start true lap false = selectEvent false true false false := by simp [selectEvent]
  have hlap : selectEvent start false true false = selectEvent false false true false := by simp [selectEvent]
  refine ⟨?_, ?_, ?_, exec_completes ..⟩
  · rw [exec_tick_eq, exec_tick_eq, hclear]
  · rw [exec_tick_eq, exec_tick_eq, hstop]
  · rw [exec_tick_eq, exec_tick_eq, hlap]

/-- Settles O34: `mode` enters a TICK in `finishTick` alone, which writes the display registers. -/
theorem modeSwitchHasNoSideEffect : Obligations.ModeSwitchHasNoSideEffect := by
  unfold Obligations.ModeSwitchHasNoSideEffect
  intro s start stop lap clear cv irq
  exact ⟨_, _, exec_tick_eq .., exec_tick_eq .., ⟨by simp, by simp⟩, ⟨by simp, by simp⟩,
    ⟨by simp, by simp, by simp, by simp⟩, by simp, by simp, by simp⟩

/-! ### The display under RAW (R215) -/

section raw

variable {s : State} {mode : Bool}

/-- What the ending shows of a RAW count, given its rendering as a two's-complement number. -/
theorem finishTick_render_of_raw (h : s.cfg.dispFmt = .raw) {r : Rendering}
    (hr : render s.cfg.toConfig (displaySource mode s).toInt = r) :
    (finishTick mode s).seg = r.seg ∧ EncFlags (finishTick mode s) r.neg r.rng r.serr := by
  have hrender := finishTick_render mode s
  rw [h, displayValue, int32, hr] at hrender
  exact hrender

end raw

/-- Settles O35: each range of the unsigned count is a range of its two's-complement reading, and that picks the
encoder's path. -/
theorem rawDisplayByRange : Obligations.RawDisplayByRange := by
  unfold Obligations.RawDisplayByRange
  intro s start stop lap clear mode cv irq hraw
  generalize hu : eventPhase (selectEvent start stop lap clear) (samplePhase cv irq (beginOp s)) = u
  have hcfg : u.cfg = s.cfg := by simp [← hu]
  rw [← hcfg] at hraw
  have hint := BitVec.toInt_eq_toNat_cond (displaySource mode u)
  refine ⟨finishTick mode u, displaySource mode u, by rw [exec_tick_eq, hu], by simp [displaySource],
    finishTick_disp_of_raw mode u hraw, ?_, ?_, ?_, ?_⟩
  · intro hsrc
    have hv : ¬ (displaySource mode u).toInt < 0 := by omega
    obtain ⟨-, hflags⟩ := finishTick_render_of_raw (mode := mode) hraw (render_numeral _ _ (by omega) (by omega))
    simpa [hv] using hflags
  · intro hlo hhi
    obtain ⟨hseg, -, hrng, -⟩ := finishTick_render_of_raw (mode := mode) hraw (render_outOfRange _ _ (by omega))
    exact ⟨hrng, fun i => by simp [hseg, blankPattern]⟩
  · intro hlo hhi
    have hrender := render_signOverflow u.cfg.toConfig (displaySource mode u).toInt (by omega) (by omega) (by omega)
    obtain ⟨hseg, hflags⟩ := finishTick_render_of_raw hraw hrender
    exact ⟨hflags, by rw [hseg, hcfg]⟩
  · intro hlo
    have hv : (displaySource mode u).toInt < 0 := by omega
    obtain ⟨-, hflags⟩ := finishTick_render_of_raw (mode := mode) hraw (render_numeral _ _ (by omega) (by omega))
    simpa [hv] using hflags

/-! ### Repeated TICKs (R221, R222) and the first sample after Start (R208) -/

section repeated

variable {s : State} {mode : Bool} {cv : U32}

/-- A sample that is no higher than the last one, with no interrupt signalled, counts no wrap, in any mode. -/
theorem wrapOf_wrap_of_le (h : cv ≤ s.last) : (wrapOf cv false s).wrap = false := by
  cases hm : s.cfg.wrapDetect with
  | irq => exact wrapOf_wrap_of_irq hm
  | compare | combined =>
    rw [← Bool.not_eq_true, wrapOf_wrap_iff_of_quiet (by simp [hm])]
    exact BitVec.not_lt.2 h

@[simp] theorem wrapOf_clear_of_quiet : (wrapOf cv false s).clear = false := by simp [wrapOf, detectWrap_clear]

/-- A quiet sample phase sends no command. -/
@[simp] theorem samplePhase_tcmd_of_quiet : (samplePhase cv false s).tcmd = s.tcmd := by
  cases hr : s.run with
  | running => simp [samplePhase_running _ _ _ hr]
  | stopped => simp [samplePhase_stopped _ _ _ hr]

/-- Where the stopwatch runs, `cv` was sampled last, and `elapsed` is what that sample gave (R155). -/
def SampledAt (cv : U32) (s : State) : Prop :=
  s.run = .running → s.last = cv ∧ s.elapsed = elapsedHundredths s.cfg.toConfig cv s.ovf_count

theorem sampledAt_samplePhase (cv : U32) (irq : Bool) (s : State) : SampledAt cv (samplePhase cv irq s) := by
  intro hr
  rw [samplePhase_run] at hr
  simp [samplePhase_running _ _ _ hr]

/-- R148: sampling again what was sampled last writes WRAP alone. -/
theorem samplePhase_of_sampledAt (h : SampledAt cv s) : samplePhase cv false s = writeWrap false s := by
  cases hr : s.run with
  | stopped => exact samplePhase_stopped _ _ _ hr
  | running =>
    obtain ⟨hlast, helapsed⟩ := h hr
    have hwrap : (wrapOf cv false s).wrap = false := wrapOf_wrap_of_le (by rw [hlast]; exact BitVec.le_refl _)
    rw [samplePhase_running _ _ _ hr]
    ext1 <;> simp [hwrap, hlast, helapsed, accTicks_eq]

/-- An ending after an ending that sent nothing changes nothing. -/
theorem finishTick_beginOp_finishTick (h : s.tcmd = []) :
    finishTick mode (beginOp (finishTick mode s)) = finishTick mode s :=
  finishTick_congr ⟨by simp, by simp⟩ ⟨by simp, by simp⟩ ⟨by simp, by simp, by simp, by simp⟩ (by simp [h]) (by simp)

end repeated

/-- Settles O36: what a Clear from Stopped leaves apart from the display is fixed by the configuration, so a second one
ends in the same state. -/
theorem clearTwiceIsClearOnce : Obligations.ClearTwiceIsClearOnce := by
  unfold Obligations.ClearTwiceIsClearOnce
  intro s mode cv cv' irq irq' hr
  have hfirst := exec_tick_clear s false false false mode cv irq
  rw [samplePhase_beginOp_of_stopped hr] at hfirst
  refine ⟨_, hfirst, ?_⟩
  have hstopped : (finishTick mode (doClear (writeWrap false (beginOp s)))).run = .stopped := by simp
  rw [exec_tick_clear, samplePhase_beginOp_of_stopped hstopped]
  exact congrArg _ (finishTick_congr ⟨by simp, by simp⟩ ⟨by simp, by simp⟩ ⟨by simp, by simp, by simp, by simp⟩
    (by simp [hr]) (by simp))

/-- Settles O37: the second sample phase finds what the first has left and writes WRAP alone
(`samplePhase_of_sampledAt`). -/
theorem repeatedTickAddsNothing : Obligations.RepeatedTickAddsNothing := by
  unfold Obligations.RepeatedTickAddsNothing
  intro s mode cv
  generalize hu : samplePhase cv false (beginOp s) = u
  have htcmd : u.tcmd = [] := by simp [← hu]
  have hsampled : SampledAt cv u := hu ▸ sampledAt_samplePhase cv false (beginOp s)
  have hagain : SampledAt cv (beginOp (finishTick mode u)) := by simpa [SampledAt] using hsampled
  have hsecond : exec (poll mode cv false) (finishTick mode u) = .next (writeWrap false (finishTick mode u)) := by
    rw [exec_poll, samplePhase_of_sampledAt hagain, finishTick_writeWrap,
      finishTick_beginOp_finishTick htcmd]
  refine ⟨_, _, by rw [exec_poll, hu], hsecond, rfl, ⟨by simp, by simp, by simp⟩, by simp, by simp, writeWrap_of_wrap⟩

/-- Settles O48: Start leaves `last` at LOAD, above every sample, so no mode counts a wrap. -/
theorem firstSampleAfterStartCountsNoFalseWrap : Obligations.FirstSampleAfterStartCountsNoFalseWrap := by
  unfold Obligations.FirstSampleAfterStartCountsNoFalseWrap
  intro s m m' c cv q hr hcv
  refine ⟨_, _, exec_tick_start_of_stopped hr, exec_poll .., ?_⟩
  rw [samplePhase_beginOp_of_running (by simp)]
  have hwrap : (wrapOf cv false (finishTick m (doStart (writeWrap false (beginOp s))))).wrap = false :=
    wrapOf_wrap_of_le hcv
  exact ⟨by simp [hwrap], by simp [hwrap], by simp [hwrap, elapsedHundredths_toNat]⟩

/-! ### Runs (R220) -/

section runs

/-- The step is total. -/
theorem step_completes (s : State) : ∃ t, step s = .next t := by
  cases hi : s.issues with
  | nil => exact ⟨s, step_of_no_issue hi⟩
  | cons p rest =>
    rw [step_of_issue hi, cycle]
    split
    · exact ⟨_, rfl⟩
    · split
      · exact exec_completes ..
      · exact ⟨_, rfl⟩

/-- What every step keeps holds after every run. -/
theorem core_run_keeps {P : State → Prop} (hstep : ∀ s t, step s = .next t → P s → P t) {s : State} (hs : P s)
    (n : Nat) : ∃ t, Sys2Proof.core.run n s = .next t ∧ P t := by
  induction n generalizing s with
  | zero => exact ⟨s, core_run_zero s, hs⟩
  | succ n ih =>
    obtain ⟨u, hu⟩ := step_completes s
    rw [core_run_succ n s u hu]
    exact ih (hstep s u hu hs)

variable {s t : State} {i : Instr} {rest : List Ports}

/-- The state in which the next issue's operation runs: the issue is taken. -/
def takeIssue (s : State) : State := { s with issues := s.issues.tail }

@[simp] theorem takeIssue_run (s : State) : (takeIssue s).run = s.run := rfl
@[simp] theorem takeIssue_cfg (s : State) : (takeIssue s).cfg = s.cfg := rfl

/-- A step that meets an encoded operation runs it; the issue is taken, and the configuration stays. -/
theorem step_of_encode (h : s.issues = encode i :: rest) (hx : exec i (takeIssue s) = .next t) :
    step s = .next t ∧ t.issues = rest ∧ t.cfg = s.cfg := by
  have htake : takeIssue s = { s with issues := rest } := by simp [takeIssue, h]
  rw [htake] at hx
  obtain ⟨hcfg, hissues⟩ := exec_sameFixed hx
  exact ⟨by rw [step_of_issue h, cycle_of_operation (encode_rst i) (decode_encode i), hx], hissues, hcfg⟩

/-! #### A cleared stopwatch -/

/-- Only a SAMPLE, or a TICK with Start alone, takes a stopwatch out of its cleared state. -/
theorem exec_keeps_cleared (h : exec i s = .next t) (hs : Cleared s) (hS : NotSample i)
    (hstart : ∀ mode cv irq, i ≠ .tick true false false false mode cv irq) : Cleared t := by
  obtain ⟨hrun, helapsed, hlap⟩ := hs
  cases effect_of_exec h with
  | nop | fmt | enc => exact ⟨by simpa using hrun, by simpa using helapsed, by simpa using hlap⟩
  | sample cv irq => exact absurd rfl (hS cv irq)
  | tick start stop lap clear mode cv irq =>
    rw [samplePhase_beginOp_of_stopped hrun]
    obtain ⟨he, -, -⟩ | ⟨-, hr, -⟩ | ⟨-, hr, -⟩ | ⟨-, heq⟩ | ⟨-, heq⟩ :=
      eventPhase_cases (writeWrap false (beginOp s)) (selectEvent start stop lap clear)
    · obtain ⟨rfl, rfl, rfl, rfl⟩ := (selectEvent_eq_start_iff ..).1 he
      exact absurd rfl (hstart mode cv irq)
    · simp [hrun] at hr
    · simp [hrun] at hr
    · exact ⟨by simp [heq], by simp [heq], by simp [heq]⟩
    · exact ⟨by simpa [heq] using hrun, by simpa [heq] using helapsed, by simpa [heq] using hlap⟩

/-- The operation of an edge that keeps the stopwatch cleared. -/
theorem KeepsCleared.operation {p : Ports} (hp : KeepsCleared p) (hrst : p.rst = false) (hd : decode p = .operation i) :
    NotSample i ∧ ∀ mode cv irq, i ≠ .tick true false false false mode cv irq := by
  obtain ⟨hop, hargs⟩ := operandsFrom_of_decode hd
  obtain hreset | ⟨hsample, htick⟩ := hp
  · simp [hrst] at hreset
  · constructor
    · rintro cv irq rfl
      exact hsample hop
    · rintro mode cv irq rfl
      obtain ⟨hstart, hstop, hlap, hclear, -⟩ := hargs
      simpa [← hstart, ← hstop, ← hlap, ← hclear] using htick hop

/-- Cleared, with nothing to come that could change it. -/
def StaysCleared (s : State) : Prop := Cleared s ∧ ∀ p ∈ s.issues, KeepsCleared p

theorem step_keeps_staysCleared (s t : State) (h : step s = .next t) (hs : StaysCleared s) : StaysCleared t := by
  obtain ⟨hc, hissues⟩ := hs
  obtain ⟨-, rfl⟩ | ⟨p, rest, hi, hedge⟩ := step_cases s t h
  · exact ⟨hc, hissues⟩
  rw [hi, List.forall_mem_cons] at hissues
  obtain ⟨hp, hrest⟩ := hissues
  have hc' : Cleared { s with issues := rest } := ⟨hc.run, hc.elapsed, hc.lap⟩
  obtain ⟨-, rfl⟩ | ⟨hrst, i, hd, hx⟩ | ⟨-, -, rfl⟩ := hedge
  · exact ⟨⟨rfl, rfl, rfl⟩, hrest⟩
  · obtain ⟨hS, hstart⟩ := hp.operation hrst hd
    have hsame : t.issues = rest := (exec_sameFixed hx).issues
    exact ⟨exec_keeps_cleared hx hc' hS hstart, by rwa [hsame]⟩
  · exact ⟨⟨hc.run, hc.elapsed, hc.lap⟩, hrest⟩

/-! #### Start, ticks, Lap, Stop, Clear -/

/-- Start leaves the stopwatch Running, from either state. -/
theorem exec_start_run (s : State) (mode : Bool) (cv : U32) (irq : Bool) :
    ∃ t, exec (.tick true false false false mode cv irq) s = .next t ∧ t.run = .running := by
  cases hr : s.run with
  | stopped => exact ⟨_, exec_tick_start_of_stopped hr, rfl⟩
  | running => exact ⟨_, exec_tick_of_ineffective (by simp) fun _ _ _ => hr, by simpa using hr⟩

/-- A run of buttonless ticks takes its issues and leaves a running stopwatch Running. -/
theorem core_run_polls {polls : List (Bool × U32 × Bool)} (hr : s.run = .running)
    (h : s.issues = polls.map (fun x => encode (poll x.1 x.2.1 x.2.2)) ++ rest) :
    ∃ t, (∀ n, Sys2Proof.core.run (polls.length + n) s = Sys2Proof.core.run n t) ∧ t.run = .running ∧
      t.issues = rest ∧ t.cfg = s.cfg := by
  induction polls generalizing s with
  | nil => exact ⟨s, fun n => by simp, hr, h, rfl⟩
  | cons x polls ih =>
    obtain ⟨hstep, hissues, hcfg⟩ := step_of_encode h (exec_poll _ x.1 x.2.1 x.2.2)
    obtain ⟨t, hrun, htr, hti, htc⟩ := ih (by simpa using hr) hissues
    refine ⟨t, fun n => ?_, htr, hti, htc.trans hcfg⟩
    rw [List.length_cons, Nat.add_right_comm, core_run_succ _ _ _ hstep, hrun]

end runs

/-- Settles O39: a step keeps `StaysCleared`, which takes in the issues to come, and so does every run. -/
theorem clearedStaysClearedUntilStart : Obligations.ClearedStaysClearedUntilStart := by
  unfold Obligations.ClearedStaysClearedUntilStart
  intro s n hs hissues
  obtain ⟨t, hrun, ht, -⟩ := core_run_keeps step_keeps_staysCleared ⟨hs, hissues⟩ n
  exact ⟨t, hrun, ht⟩

/-- Settles O38: Start leaves the stopwatch Running, the buttonless ticks keep it so by induction over their list, so
the Lap is effective; and the Clear zeroes, whatever the Stop has left. -/
theorem startLapStopClearLeavesZero : Obligations.StartLapStopClearLeavesZero := by
  unfold Obligations.StartLapStopClearLeavesZero
  intro s polls m m1 m2 m3 c c1 c2 c3 q q1 q2 q3 h
  rw [List.append_assoc, List.singleton_append] at h
  obtain ⟨a, hstart, har⟩ := exec_start_run (takeIssue s) m c q
  obtain ⟨hstep, hai, hac⟩ := step_of_encode h hstart
  obtain ⟨b, hpolls, hbr, hbi, hbc⟩ := core_run_polls har hai
  obtain ⟨_, u, -, hlap, hulap, -, hur, huacc, -⟩ := tickLapSnapshotsElapsed (takeIssue b) false m1 c1 q1 hbr
  obtain ⟨hlstep, hui, huc⟩ := step_of_encode hbi hlap
  obtain ⟨v, hstop⟩ := exec_completes (.tick false true false false m2 c2 q2) (takeIssue u)
  obtain ⟨hsstep, hvi, hvc⟩ := step_of_encode hui hstop
  obtain ⟨t, hclear, htr, htovf, htlap, htelapsed, -, htlast, -⟩ :=
    tickClearReturnsToZero (takeIssue v) false false false m3 c3 q3
  obtain ⟨hcstep, hti, htc⟩ := step_of_encode hvi hclear
  have hrun : ∀ n, Sys2Proof.core.run (polls.length + (n + 2)) s = Sys2Proof.core.run n u := by
    intro n
    rw [show polls.length + (n + 2) = polls.length + (n + 1) + 1 by omega, core_run_succ _ _ _ hstep, hpolls,
      core_run_succ _ _ _ hlstep]
  refine ⟨⟨u, hrun 0, hur, hulap.trans huacc.elapsed.symm⟩, t, ?_, ⟨htr, htelapsed, htlap⟩, htovf, ?_, hti⟩
  · rw [hrun 2, core_run_succ _ _ _ hsstep, core_run_succ _ _ _ hcstep, core_run_zero]
  · rw [htlast]
    simp [hvc, huc, hbc, hac]

end Sys2Proof.Machine
end

section
/-! The encoder (spec/42_encoder.md section 2). ENC shows what `render` computes and keeps the rest
(`exec_enc_shows_render`); each rule is then a fact about one path of `render`. -/

namespace Sys2Proof.Machine

/-- ENC shows the rendering of its operand (R271) and leaves every register but `seg` and `flags` alone (R56). -/
theorem exec_enc_shows_render (s : State) (value : U32) :
    ∃ t, exec (.enc value) s = .next t ∧ t.seg = (render s.cfg.toConfig value.toInt).seg ∧
      EncFlags t (render s.cfg.toConfig value.toInt).neg (render s.cfg.toConfig value.toInt).rng
        (render s.cfg.toConfig value.toInt).serr ∧ EncFrame s t := by
  have h := exec_enc s value
  obtain ⟨hcontroller, hdisp⟩ := exec_sameController h nofun
  obtain ⟨haccumulator, hwrap, htcmd⟩ := exec_sameAccumulator h nofun nofun
  exact ⟨_, h, rfl, ⟨by simp [int32], by simp [int32], by simp [int32]⟩,
    { fixed := exec_sameFixed h, controller := hcontroller, accumulator := haccumulator,
      format := exec_sameFormat h nofun nofun, disp := hdisp, wrap := hwrap, operr := exec_operr h, tcmd := htcmd }⟩

/-! ### The paths without a number (R264, R267) -/

/-- Settles O19: a magnitude above 999999 is the first path of `render`. -/
theorem encBlanksOutOfRange : Obligations.EncBlanksOutOfRange := by
  unfold Obligations.EncBlanksOutOfRange
  intro s value hv
  obtain ⟨t, ht, hseg, hflags, hframe⟩ := exec_enc_shows_render s value
  rw [render_outOfRange _ _ (by omega)] at hseg hflags
  refine ⟨t, ht, fun i => ?_, hflags, hframe⟩
  simp [hseg, blankPattern]

/-- SERR is set on the second path of `render` alone: negative, with six digits. -/
theorem render_serr_iff (c : Config) (v : Int) : (render c v).serr = true ↔ -999999 ≤ v ∧ v ≤ -100000 := by
  obtain ⟨hv, h⟩ | ⟨hneg, hlo, hhi, h⟩ | ⟨hlo, hhi, h⟩ := render_cases c v
  · simp only [h, Bool.false_eq_true, false_iff]
    omega
  · simp only [h, true_iff]
    omega
  · simp only [h, Bool.false_eq_true, false_iff]
    omega

/-- Settles O20: SERR is that of `render`, and the error glyph is what its second path shows. -/
theorem encShowsErrorOnSignOverflow : Obligations.EncShowsErrorOnSignOverflow := by
  unfold Obligations.EncShowsErrorOnSignOverflow
  intro s value
  obtain ⟨t, ht, hseg, hflags, hframe⟩ := exec_enc_shows_render s value
  refine ⟨t, ht, hframe, ?_, fun hlo hhi => ?_⟩
  · rw [hflags.serr, render_serr_iff]
  · rw [render_signOverflow _ _ (by omega) (by omega) (by omega)] at hseg hflags
    exact ⟨hseg, hflags⟩

/-! ### The numeral (R266, R268, R269) -/

theorem forcesOnes_iff (onesForce : Bool) (v : Int) :
    forcesOnes onesForce v = true ↔ v = 0 ∨ (onesForce = true ∧ 15 < v) := by
  simp [forcesOnes]

/-- The minus sign stands where `10^i` exceeds the magnitude and `10^(i-1)` does not; a negative value has a digit in
slot 0, so `i - 1` is a slot. -/
theorem minusSlot_iff {v : Int} {i : Nat} (h : ¬ 10 ^ i ≤ v.natAbs) :
    (v < 0 ∧ i = ndigits v.natAbs) ↔ (v < 0 ∧ 10 ^ (i - 1) ≤ v.natAbs) := by
  refine and_congr_right fun hv => ?_
  have hi : i ≠ 0 := by
    rintro rfl
    omega
  simp [eq_ndigits_iff, hi, not_le.1 h]

/-- A slot before step 6, by the powers of ten that fit into the magnitude. -/
theorem some_numeralSlot (t : SegTable) (v : Int) (i : Nat) :
    some (numeralSlot t (decide (v < 0)) v.natAbs i) =
      if 10 ^ i ≤ v.natAbs then t.dig[v.natAbs / 10 ^ i % 10]?
      else if v < 0 ∧ 10 ^ (i - 1) ≤ v.natAbs then some t.minus
      else some 0x00#8 := by
  simp only [numeralSlot, lt_ndigits_iff, decide_eq_true_eq]
  by_cases hdigit : 10 ^ i ≤ v.natAbs
  · have hlt : v.natAbs / 10 ^ i % 10 < 10 := Nat.mod_lt _ (by decide)
    simp [hdigit, digit, hlt]
  · simp only [if_neg hdigit, minusSlot_iff hdigit]
    split <;> rfl

/-- Settles O22: a value of [-99999, 999999] takes the third path of `render`, slot 0 is forced or a slot like the
others, and each of these is `some_numeralSlot`. -/
theorem encRendersDigits : Obligations.EncRendersDigits := by
  unfold Obligations.EncRendersDigits
  intro s value hlo hhi
  obtain ⟨t, ht, hseg, hflags, hframe⟩ := exec_enc_shows_render s value
  rw [render_numeral _ _ hlo hhi] at hseg hflags
  refine ⟨t, ht, fun i => ?_, hflags, hframe⟩
  rw [hseg, numeral_slot, ← some_numeralSlot]
  simp only [forcesOnes_iff, Fin.val_eq_zero_iff]
  split
  next => simp
  next => rfl

/-! ### Purity (R270) -/

/-- `render` reads no parameter but SEG and ONES_FORCE. -/
theorem render_congr {c d : Config} (hseg : d.seg = c.seg) (hforce : d.onesForce = c.onesForce) (v : Int) :
    render d v = render c v := by
  simp only [render, numeral, hseg, hforce]

/-- Settles O23: the two states show the rendering of one operand under configurations `render` cannot tell apart. -/
theorem encIsPure : Obligations.EncIsPure := by
  unfold Obligations.EncIsPure
  intro s u value hseg hforce
  obtain ⟨t, ht, htseg, htflags, -⟩ := exec_enc_shows_render s value
  obtain ⟨w, hw, hwseg, hwflags, -⟩ := exec_enc_shows_render u value
  rw [render_congr hseg hforce] at hwseg hwflags
  exact ⟨t, w, ht, hw, hwseg.trans htseg.symm, hwflags.neg.trans htflags.neg.symm,
    hwflags.rng.trans htflags.rng.symm, hwflags.serr.trans htflags.serr.symm⟩

end Sys2Proof.Machine
end

section
/-! Exceptions and interrupts (spec/60_exceptions.md): every operation and every step completes, and the interrupt is
cleared by the sample that counts it. Both SAMPLE and a TICK while Running take that sample, so its two rules, when it
sends CLRIRQ and that it then sets WRAP, are stated once of `sampleBody`. -/

namespace Sys2Proof.Machine

/-- Settles O8: totality of `exec` and of `step`. -/
theorem everyOperationAndEveryStepCompletes : Obligations.EveryOperationAndEveryStepCompletes := by
  unfold Obligations.EveryOperationAndEveryStepCompletes
  exact ⟨exec_completes, step_completes⟩

/-! ### CLRIRQ (R322, R323) -/

section interrupt

variable {i : Instr} {s t : State} {start stop lap clear mode : Bool} {cv : U32} {irq : Bool}

/-- A sample adds CLRIRQ to the commands exactly where its wrap detection reads the interrupt as pending. -/
theorem clrirq_mem_sampleBody_iff (h : s.tcmd = []) :
    TimerCmd.clrirq ∈ (sampleBody cv irq s).tcmd ↔ s.cfg.wrapDetect ≠ .compare ∧ irq = true := by
  simp [h, wrapOf, detectWrap_clear, and_comm]

/-- The sample that sends CLRIRQ counts the wrap. -/
theorem sampleBody_wrap_of_clrirq (h : s.tcmd = []) (hmem : TimerCmd.clrirq ∈ (sampleBody cv irq s).tcmd) :
    Flags.wrap (sampleBody cv irq s).flags = true := by
  have hclear : (wrapOf cv irq s).clear = true := by simpa [h] using hmem
  have hwrap : (wrapOf cv irq s).wrap = true := detectWrap_wrap_of_clear _ _ _ _ hclear
  simpa using hwrap

/-- The sample phase takes its sample while Running alone (R204). -/
theorem clrirq_mem_samplePhase_iff (h : s.tcmd = []) :
    TimerCmd.clrirq ∈ (samplePhase cv irq s).tcmd ↔
      s.cfg.wrapDetect ≠ .compare ∧ s.run = .running ∧ irq = true := by
  cases hr : s.run with
  | running =>
    rw [samplePhase_running _ _ _ hr, clrirq_mem_sampleBody_iff h]
    simp
  | stopped => simp [samplePhase_stopped _ _ _ hr, h]

theorem samplePhase_wrap_of_clrirq (h : s.tcmd = []) (hmem : TimerCmd.clrirq ∈ (samplePhase cv irq s).tcmd) :
    Flags.wrap (samplePhase cv irq s).flags = true := by
  obtain ⟨-, hr, -⟩ := (clrirq_mem_samplePhase_iff h).1 hmem
  rw [samplePhase_running _ _ _ hr] at hmem ⊢
  exact sampleBody_wrap_of_clrirq h hmem

/-- CLRIRQ in a TICK is that of its sample phase: neither the event nor the ending sends it. -/
theorem exec_tick_clrirq_mem_iff (h : exec (.tick start stop lap clear mode cv irq) s = .next t) :
    TimerCmd.clrirq ∈ t.tcmd ↔ TimerCmd.clrirq ∈ (samplePhase cv irq (beginOp s)).tcmd := by
  cases effect_of_exec h
  simp [clrirq_mem_eventPhase_iff]

/-- R323, over every operation. -/
theorem exec_clrirq_mem_iff (h : exec i s = .next t) :
    TimerCmd.clrirq ∈ t.tcmd ↔ s.cfg.wrapDetect ≠ .compare ∧
      ((∃ k, i = .sample k true) ∨ (s.run = .running ∧ ∃ a b c d m k, i = .tick a b c d m k true)) := by
  cases i with
  | nop | fmt | enc =>
    obtain ⟨-, -, htcmd⟩ := exec_sameAccumulator h nofun nofun
    simp [htcmd]
  | sample cv irq => simp [exec_sample_tcmd h, and_comm]
  | tick start stop lap clear mode cv irq =>
    rw [exec_tick_clrirq_mem_iff h, clrirq_mem_samplePhase_iff rfl]
    simp

/-- The operation that sends CLRIRQ sets WRAP: the event and the ending of a TICK leave WRAP as the sample set it. -/
theorem exec_wrap_of_clrirq (h : exec i s = .next t) (hmem : TimerCmd.clrirq ∈ t.tcmd) :
    Flags.wrap t.flags = true := by
  cases effect_of_exec h with
  | nop | fmt | enc => simp at hmem
  | sample cv irq =>
    have hsample := sampleBody_wrap_of_clrirq (s := beginOp s) rfl hmem
    simpa using hsample
  | tick start stop lap clear mode cv irq =>
    have hsample := samplePhase_wrap_of_clrirq rfl ((exec_tick_clrirq_mem_iff h).1 hmem)
    simpa using hsample

end interrupt

/-- Settles O45: which operations send CLRIRQ (`exec_clrirq_mem_iff`), and that they count the wrap
(`exec_wrap_of_clrirq`). -/
theorem interruptIsClearedExactlyWhereCounted : Obligations.InterruptIsClearedExactlyWhereCounted := by
  unfold Obligations.InterruptIsClearedExactlyWhereCounted
  intro i s
  obtain ⟨t, h⟩ := exec_completes i s
  exact ⟨t, h, exec_clrirq_mem_iff h, exec_wrap_of_clrirq h⟩

end Sys2Proof.Machine
end

section
/-! Reset and the hazards of sampling (spec/70_reset_and_hazards.md): what a reset leaves, that the configuration stays,
an interrupt left pending across a Stop, the double count of COMBINED, and the cadence at which COMPARE counts every
wrap of the countdown timer. -/

namespace Sys2Proof.Machine

/-! ### Reset (R360, R361) -/

theorem cycle_of_reset {p : Ports} (hrst : p.rst = true) (s : State) : cycle p s = .next (applyReset s) := if_pos hrst

/-- Resetting again changes nothing. -/
theorem applyReset_resetWith (c : LegalConfig) : applyReset (State.resetWith c) = State.resetWith c := rfl

/-- Settles O9: `rst` outranks `op`, and the edge writes the reset state over everything but the configuration and the
issues to come. -/
theorem resetInputRestoresEveryRegister : Obligations.ResetInputRestoresEveryRegister := by
  unfold Obligations.ResetInputRestoresEveryRegister
  intro s p rest hissue hrst
  refine ⟨_, (step_of_issue hissue).trans (cycle_of_reset hrst _), ?_⟩
  exact ⟨rfl, rfl, rfl, rfl, rfl, rfl, rfl, rfl, fun i => Vector.getElem_replicate i.isLt, rfl, rfl, rfl, rfl, rfl,
    rfl, rfl⟩

/-- Settles O10: the fields of `State.resetWith`, read off. -/
theorem resetStateHoldsTheResetValues : Obligations.ResetStateHoldsTheResetValues := by
  unfold Obligations.ResetStateHoldsTheResetValues
  refine ⟨fun c => ?_, rfl⟩
  exact ⟨rfl, rfl, rfl, rfl, rfl, rfl, rfl, fun i => Vector.getElem_replicate i.isLt, rfl, rfl, rfl, rfl, rfl, rfl⟩

theorem inv_resetWith (c : LegalConfig) : Inv (State.resetWith c) :=
  applyReset_resetWith c ▸ inv_applyReset (State.resetWith c)

/-- Settles O46: the reset state is what a reset leaves, which has the invariant (`inv_applyReset`). -/
theorem invariantHoldsAtReset : Obligations.InvariantHoldsAtReset := by
  unfold Obligations.InvariantHoldsAtReset
  exact ⟨inv_resetWith, inv_resetWith _⟩

/-! ### The configuration (R364) -/

/-- Settles O13: a step without an issue holds everything; one with an issue takes it, and neither a reset, nor an
operation, nor a reserved code writes the configuration or the issues behind it. -/
theorem configurationIsConstant : Obligations.ConfigurationIsConstant := by
  unfold Obligations.ConfigurationIsConstant
  intro s t h
  obtain ⟨hi, rfl⟩ | ⟨p, rest, hi, ⟨-, rfl⟩ | ⟨-, i, -, hexec⟩ | ⟨-, -, rfl⟩⟩ := step_cases s t h
  · exact ⟨rfl, by rw [hi, List.tail_nil]⟩
  · exact ⟨rfl, by rw [hi, applyReset_issues, List.tail_cons]⟩
  · obtain ⟨hcfg, hissues⟩ := exec_sameFixed hexec
    exact ⟨hcfg, by rw [hi, hissues, List.tail_cons]⟩
  · exact ⟨rfl, by rw [hi, List.tail_cons, execReserved_eq]⟩

/-! ### Interrupts (R373, R376) -/

/-- In the two modes that read the interrupt, a sample that finds it pending counts and clears it, whatever its count
(R143). -/
theorem wrapOf_of_pending {s : State} {cv : U32} (h : s.cfg.wrapDetect ≠ .compare) :
    wrapOf cv true s = { wrap := true, clear := true } := by
  have hclear : (wrapOf cv true s).clear = true := by simp [wrapOf, detectWrap_clear, h]
  have hwrap : (wrapOf cv true s).wrap = true := detectWrap_wrap_of_clear _ _ _ _ hclear
  exact congrArg₂ WrapDecision.mk hwrap hclear

/-- Settles O49: the tick while Stopped does not sample, Start writes neither `ovf_count` nor the configuration, and the
tick behind it samples the interrupt that is still pending. -/
theorem pendingInterruptIsCountedAfterStart : Obligations.PendingInterruptIsCountedAfterStart := by
  unfold Obligations.PendingInterruptIsCountedAfterStart
  intro s m m' m'' a c cv q hr hmode
  have hidle := exec_poll s m a true
  rw [samplePhase_beginOp_of_stopped hr] at hidle
  refine ⟨_, _, _, hidle, by simp, by simp, exec_tick_start_of_stopped (by simpa using hr), exec_poll .., ?_⟩
  rw [samplePhase_beginOp_of_running (by simp), finishTick_ovf_count, finishTick_tcmd, sampleBody_ovf_count,
    sampleBody_tcmd, wrapOf_of_pending (by simpa using hmode)]
  exact ⟨by simp [countWrap_eq_add], by simp [clearCmds]⟩

/-- Settles O50: the first sample counts the wrap by its comparison, without an interrupt to clear; the second counts
the interrupt, whatever its count. -/
theorem combinedCountsOneWrapTwice : Obligations.CombinedCountsOneWrapTwice := by
  unfold Obligations.CombinedCountsOneWrapTwice
  intro s cv cv' hmode hlt
  obtain ⟨u, hu⟩ := exec_completes (.sample cv false) s
  obtain ⟨t, ht⟩ := exec_completes (.sample cv' true) u
  have hmode' : u.cfg.wrapDetect = .combined := by rw [(exec_sameFixed hu).cfg, hmode]
  have hfirst : u.ovf_count = s.ovf_count + 1 := by
    obtain ⟨hovf, -⟩ := exec_sample_accumulator hu
    rwa [(wrapOf_wrap_iff_of_combined hmode).2 (.inr hlt)] at hovf
  have hsecond : t.ovf_count = u.ovf_count + 1 := by
    obtain ⟨hovf, -⟩ := exec_sample_accumulator ht
    rwa [(wrapOf_wrap_iff_of_combined hmode').2 (.inl rfl)] at hovf
  refine ⟨u, t, hu, ht, ?_, by simp [exec_sample_tcmd hu], by simp [exec_sample_tcmd ht, hmode']⟩
  rw [hsecond, hfirst, BitVec.add_assoc]
  rfl

/-! ### The cadence of sampling under COMPARE (R326, R370) -/

section cadence

variable {s : State} {P : Nat} {c : Nat → Nat} {a b : Nat} {ts : List Nat}

/-- The sample that a countdown timer gives at timer tick `t`. -/
def countWord (c : Nat → Nat) (t : Nat) : U32 := BitVec.ofNat 32 (c t)

/-- The counts of a timer fit in a sample, since LOAD does. -/
theorem countWord_toNat {load : U32} (hc : CountsDown load.toNat P c) (t : Nat) : (countWord c t).toNat = c t :=
  toNat_ofNat_of_lt ((hc.bound t).trans_lt load.isLt)

theorem le_getLastD_of_sampledOften (h : SampledOften P (a :: ts)) : a ≤ ts.getLastD a := by
  induction ts generalizing a with
  | nil => exact le_rfl
  | cons b ts ih =>
    obtain ⟨⟨hab, -⟩, hrest⟩ := List.isChain_cons_cons.1 h
    rw [List.getLastD_cons]
    exact hab.trans (ih hrest)

/-- Less than a period later the timer is in the same period, where its count has not risen, or in the next one, at a
point of it that it had not reached in the last, so that its count has risen. -/
theorem CountsDown.period_eq {load : Nat} (hc : CountsDown load P c) (hab : a ≤ b) (hlt : b < a + P) :
    b / P = a / P + (if c a < c b then 1 else 0) := by
  have hlow : a / P ≤ b / P := Nat.div_le_div_right hab
  have hhigh : b / P ≤ a / P + 1 := (Nat.div_le_div_right hlt.le).trans_eq (Nat.add_div_right a hc.positive)
  obtain hsame | hnext : b / P = a / P ∨ b / P = a / P + 1 := by omega
  · have hfall : c b ≤ c a := by
      obtain rfl | h := hab.eq_or_lt
      · exact le_rfl
      · exact (hc.decreasing a b h hsame.symm).le
    rw [if_neg hfall.not_gt, hsame, Nat.add_zero]
  · have hP : P ≤ b := (Nat.div_pos_iff.1 (hnext ▸ Nat.succ_pos _)).2
    obtain ⟨d, rfl⟩ := Nat.exists_eq_add_of_le' hP
    have hback : d / P = a / P := Nat.succ.inj ((Nat.add_div_right d hc.positive).symm.trans hnext)
    have hrise : c a < c (d + P) := (hc.decreasing d a (by omega) hback).trans_eq (hc.periodic d).symm
    rw [if_pos hrise, hnext]

/-- COMPARE counts the period that has begun since the last sample, if one has. -/
theorem quietSampled_ovf_count_of_countsDown (hmode : s.cfg.wrapDetect = .compare)
    (hc : CountsDown s.cfg.load.toNat P c) (hlast : s.last.toNat = c a) (hab : a ≤ b) (hlt : b < a + P) :
    (quietSampled s (countWord c b)).ovf_count = s.ovf_count + BitVec.ofNat 32 (b / P - a / P) := by
  have hrise : s.last < countWord c b ↔ c a < c b := by rw [BitVec.lt_def, hlast, countWord_toNat hc]
  rw [quietSampled_ovf_count (by simp [hmode]), hc.period_eq hab hlt, Nat.add_sub_cancel_left]
  simp only [hrise]
  split <;> rfl

/-- A run of such samples ends with the timer's count in `last`, and has counted the periods that went by. -/
theorem quietlySampled_of_sampledOften (hmode : s.cfg.wrapDetect = .compare) (hc : CountsDown s.cfg.load.toNat P c)
    (hlast : s.last.toNat = c a) (h : SampledOften P (a :: ts)) :
    (quietlySampled s (ts.map (countWord c))).ovf_count =
        s.ovf_count + BitVec.ofNat 32 (ts.getLastD a / P - a / P) ∧
      (quietlySampled s (ts.map (countWord c))).last.toNat = c (ts.getLastD a) := by
  induction ts generalizing s a with
  | nil => exact ⟨by simp [quietlySampled], hlast⟩
  | cons b ts ih =>
    obtain ⟨⟨hab, hlt⟩, hrest⟩ := List.isChain_cons_cons.1 h
    have hstep := quietSampled_ovf_count_of_countsDown hmode hc hlast hab hlt
    obtain ⟨hcount, hfinal⟩ := ih (s := quietSampled s (countWord c b)) (by simpa using hmode) (by simpa using hc)
      (by rw [quietSampled_last, countWord_toNat hc]) hrest
    have hlow : a / P ≤ b / P := Nat.div_le_div_right hab
    have hhigh : b / P ≤ ts.getLastD b / P := Nat.div_le_div_right (le_getLastD_of_sampledOften hrest)
    rw [List.getLastD_cons]
    refine ⟨?_, hfinal⟩
    calc (quietlySampled s ((b :: ts).map (countWord c))).ovf_count
        = s.ovf_count + BitVec.ofNat 32 (b / P - a / P) + BitVec.ofNat 32 (ts.getLastD b / P - b / P) := by
          rw [← hstep]; exact hcount
      _ = s.ovf_count + BitVec.ofNat 32 (ts.getLastD b / P - a / P) := by
          rw [BitVec.add_assoc, ← BitVec.ofNat_add, Nat.add_comm, Nat.sub_add_sub_cancel hhigh hlow]

end cadence

/-- Settles O51: between neighbouring samples less than a period apart the count rises exactly where a period has begun
(`CountsDown.period_eq`); by induction over the sampling times the run has counted the periods that went by
(`quietlySampled_of_sampledOften`), and its last sample leaves `elapsed` at the formula. -/
theorem samplingWithinAPeriodCountsEveryWrap : Obligations.SamplingWithinAPeriodCountsEveryWrap := by
  unfold Obligations.SamplingWithinAPeriodCountsEveryWrap
  intro s P c t0 ts hmode hc hlast hoften hne hissues
  have hrun : Sys2Proof.core.run ts.length s = .next (quietlySampled s (ts.map (countWord c))) := by
    have hquiet : s.issues = (ts.map (countWord c)).map quietSample ++ [] := by
      rw [hissues, List.map_map, List.append_nil]
      rfl
    simpa using core_run_quietSamples hquiet
  obtain ⟨hcount, hfinal⟩ := quietlySampled_of_sampledOften hmode hc hlast hoften
  refine ⟨_, hrun, ?_, hfinal, ?_⟩
  · rw [hcount, BitVec.toNat_add, BitVec.toNat_ofNat, Nat.add_mod_mod]
  · rw [quietlySampled_elapsed (by simpa using hne), elapsedHundredths_toNat, hfinal]

end Sys2Proof.Machine
end
